-- ==== Sys2Proof/Word.lean ====
section
/-! DEFINITION. The word types of SDSPI-CORE (`00_scope.md` rules R9, R10): a byte is 8 bits, a command
index 6 bits (the operand of `BUILD_FRAME` is 8 bits wide, rule R77), an argument 32 bits, a CRC-7 value
7 bits, a CRC-16 value 16 bits. Every value is unsigned. -/

namespace Sys2Proof

/-- 8 bits, bit 7 the most significant (R9, R10). -/
abbrev Byte := BitVec 8

/-- The 32-bit unsigned argument of a command (R9). -/
abbrev Arg32 := BitVec 32

/-- The value of the CRC-7 working register (R9, R28). -/
abbrev Crc7Value := BitVec 7

/-- The value of the CRC-16 working register (R9, R29). -/
abbrev Crc16Value := BitVec 16

end Sys2Proof
end

