-- ==== Sys2Proof/Config.lean ====
section
/-! DEFINITION. What one instance of the block fixes for its life (`00_scope.md` rules R7, R8; `10_state.md`
rules R37, R38): the protocol constants as definitions, and the parameters as a record of plain data, `Params`,
that State carries and no step writes, so that a claim about every state is a claim about every
parameter value (decision D25). The two open legacy reset statuses, and the bytes `FRAME` and `ARG` hold at reset,
have no body at all. -/

namespace Sys2Proof.Config

/-- `IDLE_BYTE`: the idle, filler and "not yet answered" byte (R8). -/
def idleByte : Byte := 0xFF#8

/-- `CRC7_POLY`: the low coefficients of x⁷+x³+1 in a 7-bit register (R8, R101). -/
def crc7Poly : Crc7Value := 0x09#7

/-- `CRC16_POLY`: the low coefficients of x¹⁶+x¹²+x⁵+1 (R8, R105). -/
def crc16Poly : Crc16Value := 0x1021#16

/-- `CMD0_CRC_BYTE` (R8, R76). -/
def cmd0CrcByte : Byte := 0x95#8

/-- `CMD8_CRC_BYTE` (R8, R76). -/
def cmd8CrcByte : Byte := 0x87#8

/-- `CMD55_CRC_BYTE` (R8, R76; decision D13). -/
def cmd55CrcByte : Byte := 0x65#8

/-- The all-zero argument of the reset command (R74, R114). -/
def cmd0Arg : Arg32 := 0x00000000#32

/-- `CMD8_ARG` (R8, R115). -/
def cmd8Arg : Arg32 := 0x000001AA#32

/-- `CMD55_ARG` (R8, R116; decision D13). -/
def cmd55Arg : Arg32 := 0x00000000#32

/-- `ACMD41_ARG` (R8, R117; decision D14). -/
def acmd41Arg : Arg32 := 0x40000000#32

/-- `IDLE_STATUS` (R8, R80; decision D11). -/
def idleStatus : Byte := 0x01#8

/-- `READY_STATUS` (R8, R80). -/
def readyStatus : Byte := 0x00#8

/-- The voltage-window echo that byte 3 of the interface-condition response must equal (R82, R158). -/
def ifcondVoltage : Byte := 0x01#8

/-- The check-pattern echo that byte 4 of the interface-condition response must equal (R82, R158). -/
def ifcondPattern : Byte := 0xAA#8

/-- `RESET_LEGACY_A`, OPEN in the spec (R8, R154, decision D12): an 8-bit value other than `0xFF`, that is one
of the values 0 to 254. No body: nothing can evaluate it. -/
opaque resetLegacyA : Fin 255

/-- `RESET_LEGACY_B`, OPEN in the spec (R8, R154, decision D12). No body: nothing can evaluate it. -/
opaque resetLegacyB : Fin 255

/-- What a byte of `FRAME` holds at power-on, unspecified (R22, R200; log entry 5). No body: nothing can evaluate it. -/
opaque resetFrameByte : Fin 6 → Byte

/-- What a byte of `ARG` holds at power-on, unspecified (R23, R200; log entry 5). No body: nothing can evaluate it. -/
opaque resetArgByte : Fin 4 → Byte

end Sys2Proof.Config

namespace Sys2Proof

/-- The parameters of an instance (R7, R8): natural-number bounds, and the two legacy reset statuses, each one
of the 255 byte values other than `0xFF` (R154). -/
structure Params where
  /-- `RESET_RETRY_MAX`: attempts of the reset command (R7). -/
  resetRetryMax : Nat
  /-- `HANDSHAKE_ROUNDS_MAX`: handshake rounds (R7). -/
  handshakeRoundsMax : Nat
  /-- `POLL_MAX_STATUS`: poll attempts for the single-status shape (R7). -/
  pollMaxStatus : Nat
  /-- `POLL_MAX_OTHER`: poll attempts for every other shape (R7). -/
  pollMaxOther : Nat
  /-- `PRE_RESET_IDLE_BYTES`: idle bytes of bring-up step 1 (R8, decision D18). -/
  preResetIdleBytes : Nat
  /-- `RESET_LEGACY_A` (R154). -/
  resetLegacyA : Fin 255
  /-- `RESET_LEGACY_B` (R154). -/
  resetLegacyB : Fin 255
deriving DecidableEq, Repr

/-- The documented defaults (R7, R8); the legacy statuses are the open constants. -/
def Params.default : Params :=
  { resetRetryMax := 15, handshakeRoundsMax := 10, pollMaxStatus := 20, pollMaxOther := 8,
    preResetIdleBytes := 10, resetLegacyA := Config.resetLegacyA, resetLegacyB := Config.resetLegacyB }

end Sys2Proof
end

