-- ==== Sys2Proof/Syntax.lean ====
section
/-! DEFINITION. The instructions: one constructor for each of the 25 rows of `spec/opcode_table.json`. The table
has four kinds of row, told apart by the port a word stands on and not by its bits: host operations (`OP[2:0]`,
R84), shapes (`SHAPE[2:0]`, R85), transport actions (`ACT[1:0]`, R86) and command frames (48 bits, R70). After
them, the words on those ports (`Packet`). -/

namespace Sys2Proof

/-- The six bytes of a command frame, `b0` first on the wire (R22, R56, R70). -/
structure Frame where
  /-- command byte -/
  b0 : Byte
  /-- argument bits 31..24 -/
  b1 : Byte
  /-- argument bits 23..16 -/
  b2 : Byte
  /-- argument bits 15..8 -/
  b3 : Byte
  /-- argument bits 7..0 -/
  b4 : Byte
  /-- CRC byte -/
  b5 : Byte
deriving DecidableEq, Repr

/-- The five response shapes (R79). -/
inductive Shape where
  | status | busy | status2 | ocr | ifcond
deriving DecidableEq, Repr

/-- One constructor per row of the opcode table. -/
inductive Instr where
  /-- `CRC7 bytes`: CRC-7 of a byte sequence; `length` is the length of the list (R100). -/
  | crc7 (bytes : List Byte)
  /-- `CRC16 bytes` (R104). -/
  | crc16 (bytes : List Byte)
  /-- `BUILD_FRAME index, arg` (R110). -/
  | buildFrame (index : BitVec 8) (arg : Arg32)
  /-- `SEND_COMMAND shape`, the operand being the 3-bit shape select (R126, R85). -/
  | sendCommand (shape : BitVec 3)
  /-- `BRINGUP` (R150). -/
  | bringup
  /-- Reserved operation code `0b000` (R84). -/
  | opReserved000
  /-- Reserved operation code `0b110` (R84). -/
  | opReserved110
  /-- Reserved operation code `0b111` (R84). -/
  | opReserved111
  /-- Shape code `0b000` (R85, R144). -/
  | shapeStatus
  /-- Shape code `0b001` (R85, R145). -/
  | shapeBusy
  /-- Shape code `0b010` (R85, R146). -/
  | shapeStatus2
  /-- Shape code `0b011` (R85, R147). -/
  | shapeOcr
  /-- Shape code `0b100` (R85, R148). -/
  | shapeIfcond
  /-- Reserved shape code `0b101` (R85). -/
  | shapeReserved101
  /-- Reserved shape code `0b110` (R85). -/
  | shapeReserved110
  /-- Reserved shape code `0b111` (R85). -/
  | shapeReserved111
  /-- Transport action `DESEL` (R121). -/
  | desel
  /-- Transport action `SEL` (R120). -/
  | sel
  /-- Transport action `XCHG out` (R122). -/
  | xchg (out : Byte)
  /-- Transport action `XMIT b[0..6)` (R123). -/
  | xmit (bytes : Frame)
  /-- Command frame `40 00 00 00 00 95` (R114). -/
  | cmd0
  /-- Command frame `48 00 00 01 AA 87` (R115). -/
  | cmd8
  /-- Command frame `77 00 00 00 00 65` (R116). -/
  | cmd55
  /-- Command frame `69 40 00 00 00 77` (R117). -/
  | acmd41
  /-- Any command frame with a shape the host chooses, R91's `CMD n, arg, shape`: index, argument, the seven CRC bits
  the word shows, and the shape (R118). -/
  | cmdN (n : BitVec 6) (arg : Arg32) (g : Crc7Value) (shape : BitVec 3)
deriving DecidableEq, Repr

/-- The operand lines of the host port beside `OP[2:0]` (R84): an operation reads the lines the table gives it and
no other. The CRC operand is a finite byte sequence of any length, with no address (R53, decision D27). -/
structure HostLines where
  /-- `OP[2:0]` (R84) -/
  op : BitVec 3
  /-- `SHAPE[2:0]` (R85) -/
  shape : BitVec 3
  /-- the 8-bit index operand (R77) -/
  index : BitVec 8
  /-- the 32-bit argument (R84) -/
  arg : Arg32
  /-- `bytes`, `length` (R53) -/
  bytes : List Byte
deriving DecidableEq, Repr

/-- An encoded word with the port it stands on. The spec gives the four kinds of code no common word: `OP`,
`SHAPE` and `ACT` codes overlap bit for bit and are told apart by where they stand (R84 to R86). -/
inductive Packet where
  /-- a request on the host port (R84) -/
  | host (lines : HostLines)
  /-- a shape select given to the dispatcher (R85, R140) -/
  | shape (code : BitVec 3)
  /-- an action select on the transport port, with its out byte and its six out bytes (R86) -/
  | act (code : BitVec 2) (out : Byte) (bytes : Frame)
  /-- a 48-bit command frame word (R70), with a shape beside it (`CMD n, arg, shape`) or without one (the four named
  commands of R91) -/
  | frame (word : BitVec 48) (shape : Option (BitVec 3))
deriving DecidableEq, Repr

/-- What a host can present: one of the operations of R84, or one of the command lines of R91. A transport action
is not among them (R195). -/
inductive HostRequest where
  | op (lines : HostLines)
  | command (word : BitVec 48) (shape : Option (BitVec 3))
deriving DecidableEq, Repr

end Sys2Proof
end

