-- ==== Sys2Proof/Machine/Crc.lean ====
section
/-! DEFINITION. The CRC engine (`40_crc.md`): the two bit-serial computations as pure functions of the register
and the message, in the only normative form (R100, R104). -/

namespace Sys2Proof.Machine

/-- The eight bits of a byte, most significant first (R57). -/
def bitsMsbFirst (b : Byte) : List Bool := [b[7], b[6], b[5], b[4], b[3], b[2], b[1], b[0]]

/-- One message bit: the feedback is register bit 6 against the message bit, taken before the shift (R100). -/
def crc7Bit (reg : Crc7Value) (m : Bool) : Crc7Value :=
  if reg[6] ^^ m then (reg <<< 1) ^^^ Config.crc7Poly else reg <<< 1

/-- One message byte, its bits most significant first (R57, R100). -/
def crc7Byte (reg : Crc7Value) (b : Byte) : Crc7Value := (bitsMsbFirst b).foldl crc7Bit reg

/-- The register after the bytes, continuing from `reg` (R100; streaming, R103 item 5). -/
def crc7From (reg : Crc7Value) (bytes : List Byte) : Crc7Value := bytes.foldl crc7Byte reg

/-- `CRC7` of a byte sequence: initial register 0 (R100). -/
def crc7 (bytes : List Byte) : Crc7Value := crc7From 0#7 bytes

/-- One shift: the polynomial is XORed in when the vacated top bit was set (R104). -/
def crc16Shift (reg : Crc16Value) : Crc16Value :=
  if reg[15] then (reg <<< 1) ^^^ Config.crc16Poly else reg <<< 1

/-- The byte as the high 8 bits of a 16-bit value, `zext_16(b) << 8` (R104). -/
def highByte (b : Byte) : Crc16Value := b.zeroExtend 16 <<< 8

/-- One message byte: XOR into the high byte, then eight shifts (R104). -/
def crc16Byte (reg : Crc16Value) (b : Byte) : Crc16Value := crc16Shift^[8] (reg ^^^ highByte b)

/-- The register after the bytes, continuing from `reg` (R104, R106). -/
def crc16From (reg : Crc16Value) (bytes : List Byte) : Crc16Value := bytes.foldl crc16Byte reg

/-- `CRC16` of a byte sequence: initial register 0 (R104). -/
def crc16 (bytes : List Byte) : Crc16Value := crc16From 0#16 bytes

end Sys2Proof.Machine
end

