-- ==== Sys2Proof/Machine/Operands.lean ====
section
/-! DEFINITION. The operand forms: the split of the 32-bit argument, the command byte, the CRC byte and the whole
frame (`30_encoding.md` R70 to R77, `41_framer.md` R110), the 48-bit frame word, and the shape operand with what
the dispatcher selects by it (R79, R85, R140). -/

namespace Sys2Proof.Machine

/-- Argument bits 31..24 (R55). -/
def argByte3 (arg : Arg32) : Byte := arg.extractLsb' 24 8
/-- Argument bits 23..16 (R55). -/
def argByte2 (arg : Arg32) : Byte := arg.extractLsb' 16 8
/-- Argument bits 15..8 (R55). -/
def argByte1 (arg : Arg32) : Byte := arg.extractLsb' 8 8
/-- Argument bits 7..0 (R55). -/
def argByte0 (arg : Arg32) : Byte := arg.extractLsb' 0 8

/-- `FRAME[0] = 0x40 or index[7:0]`, no masking (R71, R77, R110). -/
def commandByte (index : BitVec 8) : Byte := 0x40#8 ||| index

/-- `FRAME[0..5)`: the command byte and the argument, high byte first (R55, R73). -/
def frameHead (index : BitVec 8) (arg : Arg32) : List Byte :=
  [commandByte index, argByte3 arg, argByte2 arg, argByte1 arg, argByte0 arg]

/-- `(crc << 1) or 1`: the seven CRC bits above the stop bit (R57, R73). -/
def packCrc (crc : Crc7Value) : Byte := (crc.zeroExtend 8 <<< 1) ||| 1#8

/-- The literal CRC byte of a fixed-CRC command, selected by the index alone (R76, R110). -/
def fixedCrcByte (index : BitVec 8) : Option Byte :=
  if index = 0#8 then some Config.cmd0CrcByte
  else if index = 8#8 then some Config.cmd8CrcByte
  else if index = 55#8 then some Config.cmd55CrcByte
  else none

/-- `FRAME[5]`: the literal for index 0, 8 and 55, else the packed CRC of `FRAME[0..5)` (R73, R76, R110). -/
def frameCrcByte (index : BitVec 8) (arg : Arg32) : Byte :=
  match fixedCrcByte index with
  | some lit => lit
  | none => packCrc (crc7 (frameHead index arg))

/-- The six bytes `BUILD_FRAME index, arg` returns (R110, R113). -/
def buildFrame (index : BitVec 8) (arg : Arg32) : Frame :=
  { b0 := commandByte index, b1 := argByte3 arg, b2 := argByte2 arg, b3 := argByte1 arg, b4 := argByte0 arg,
    b5 := frameCrcByte index arg }

/-- A 6-bit command index as the 8-bit operand of `BUILD_FRAME` (R77). -/
def indexOperand (n : BitVec 6) : BitVec 8 := n.zeroExtend 8

/-- The six bytes of a frame in wire order (R56). -/
def frameBytes (f : Frame) : List Byte := [f.b0, f.b1, f.b2, f.b3, f.b4, f.b5]

/-- The 48 frame bits, bit 47 first on the wire (R70). -/
def frameWord (f : Frame) : BitVec 48 := f.b0 ++ f.b1 ++ f.b2 ++ f.b3 ++ f.b4 ++ f.b5

/-- The 48 bits of a command frame by its fields: `01`, index, argument, CRC, `1` (R70). -/
def commandWord (n : BitVec 6) (arg : Arg32) (g : Crc7Value) : BitVec 48 :=
  0b01#2 ++ n ++ arg ++ g ++ 1#1

/-- Frame bits 47:46, the transmission-start marker (R70). -/
def wordMarker (w : BitVec 48) : BitVec 2 := w.extractLsb' 46 2
/-- Frame bits 45:40, the command index (R70). -/
def wordIndex (w : BitVec 48) : BitVec 6 := w.extractLsb' 40 6
/-- Frame bits 39:8, the argument (R70). -/
def wordArg (w : BitVec 48) : Arg32 := w.extractLsb' 8 32
/-- Frame bits 7:1, the CRC (R70). -/
def wordCrc (w : BitVec 48) : Crc7Value := w.extractLsb' 1 7
/-- Frame bit 0, the stop bit (R70). -/
def wordStop (w : BitVec 48) : BitVec 1 := w.extractLsb' 0 1

/-- Frame word of `CMD0` (R74, R114). -/
def cmd0Word : BitVec 48 := 0x400000000095#48
/-- Frame word of `CMD8` (R74, R115). -/
def cmd8Word : BitVec 48 := 0x48000001AA87#48
/-- Frame word of `CMD55` (R74, R116). -/
def cmd55Word : BitVec 48 := 0x770000000065#48
/-- Frame word of `ACMD41` (R74, R117). -/
def acmd41Word : BitVec 48 := 0x694000000077#48

/-- `SHAPE[2:0]` of a shape (R85). -/
def shapeCode (sh : Shape) : BitVec 3 :=
  match sh with
  | .status => 0b000#3
  | .busy => 0b001#3
  | .status2 => 0b010#3
  | .ocr => 0b011#3
  | .ifcond => 0b100#3

/-- The shape a 3-bit code selects; the reserved codes select none (R85). -/
def shapeOfCode (c : BitVec 3) : Option Shape :=
  if c = 0b000#3 then some .status
  else if c = 0b001#3 then some .busy
  else if c = 0b010#3 then some .status2
  else if c = 0b011#3 then some .ocr
  else if c = 0b100#3 then some .ifcond
  else none

/-- `len(shape)`: bytes of a response (R79, R144 to R148). -/
def shapeLength (sh : Shape) : Nat :=
  match sh with
  | .status => 1
  | .busy => 1
  | .status2 => 2
  | .ocr => 5
  | .ifcond => 5

/-- `bound(shape)`: poll attempts (R79, R126). -/
def pollBound (p : Params) (sh : Shape) : Nat :=
  match sh with
  | .status => p.pollMaxStatus
  | .busy => p.pollMaxOther
  | .status2 => p.pollMaxOther
  | .ocr => p.pollMaxOther
  | .ifcond => p.pollMaxOther

end Sys2Proof.Machine
end

