-- ==== Sys2Proof/WellFormed.lean ====
section
/-! DEFINITION. What makes an instruction well-formed: three checks, each from a rule of `30_encoding.md`. The machine
gives an ill-formed instruction the meaning the spec still gives it (R113 for an index above 63, R85 for a
reserved shape); WellFormed says which instructions meet the caller's duties. -/

namespace Sys2Proof

open Sys2Proof.Machine

/-- The caller's duty of R77 and R217: a command index fits in 6 bits (`93_implementation_defined.md` U1). -/
def indexFits (i : Instr) : Bool :=
  match i with
  | .buildFrame index _ => index.toNat < 64
  | _ => true

/-- The shape operand is one of the five shapes, not a reserved code (R85). -/
def shapeNotReserved (i : Instr) : Bool :=
  match i with
  | .sendCommand c => (shapeOfCode c).isSome
  | .cmdN _ _ _ c => (shapeOfCode c).isSome
  | _ => true

/-- The CRC bits a `CMDn` word shows are those `BUILD_FRAME` puts there (R70, R118). -/
def crcBitsMatch (i : Instr) : Bool :=
  match i with
  | .cmdN n arg g _ => g == wordCrc (frameWord (buildFrame (indexOperand n) arg))
  | _ => true

/-- All three checks. -/
def wellFormed (i : Instr) : Bool := indexFits i && shapeNotReserved i && crcBitsMatch i

end Sys2Proof
end

