-- ==== Sys2Proof/Decode.lean ====
section
/-! DEFINITION. The decoder, total on every packet, and after it the encoder, both from the encodings of
`30_encoding.md` (R70, R74, R84, R85, R86, R91) and `spec/opcode_table.json`. The only words refused are frame words
without the fixed marker bits, and frame words that are no named command and have no shape beside them; reserved
operation and shape codes decode to the constructors of their own rows. -/

namespace Sys2Proof

open Sys2Proof.Machine

/-- Why a frame word is no command (R70, R91). -/
inductive DecodeError where
  /-- frame bits 47:46 are not the marker `01` -/
  | startMarker
  /-- frame bit 0 is not the stop marker `1` -/
  | stopMarker
  /-- a frame other than the four named commands, with no shape beside it -/
  | noShape
deriving DecidableEq, Repr

/-- `OP[2:0]` (R84). -/
def decodeHost (l : HostLines) : Instr :=
  if l.op = 0b001#3 then .crc7 l.bytes
  else if l.op = 0b010#3 then .crc16 l.bytes
  else if l.op = 0b011#3 then .buildFrame l.index l.arg
  else if l.op = 0b100#3 then .sendCommand l.shape
  else if l.op = 0b101#3 then .bringup
  else if l.op = 0b000#3 then .opReserved000
  else if l.op = 0b110#3 then .opReserved110
  else .opReserved111

/-- `SHAPE[2:0]` (R85). -/
def decodeShape (c : BitVec 3) : Instr :=
  if c = 0b000#3 then .shapeStatus
  else if c = 0b001#3 then .shapeBusy
  else if c = 0b010#3 then .shapeStatus2
  else if c = 0b011#3 then .shapeOcr
  else if c = 0b100#3 then .shapeIfcond
  else if c = 0b101#3 then .shapeReserved101
  else if c = 0b110#3 then .shapeReserved110
  else .shapeReserved111

/-- `ACT[1:0]`; all four codes are used (R86). -/
def decodeAct (c : BitVec 2) (out : Byte) (bytes : Frame) : Instr :=
  if c = 0b00#2 then .desel
  else if c = 0b01#2 then .sel
  else if c = 0b10#2 then .xchg out
  else .xmit bytes

/-- A 48-bit frame word (R70). With a shape beside it, it is R91's `CMD n, arg, shape`, whatever the index and the
argument; without one, it is one of the four named commands, whose shape R91 gives (R74). -/
def decodeFrame (w : BitVec 48) (shape : Option (BitVec 3)) : Except DecodeError Instr :=
  if wordMarker w ≠ 0b01#2 then .error .startMarker
  else if wordStop w ≠ 1#1 then .error .stopMarker
  else
    match shape with
    | some c => .ok (.cmdN (wordIndex w) (wordArg w) (wordCrc w) c)
    | none =>
      if w = cmd0Word then .ok .cmd0
      else if w = cmd8Word then .ok .cmd8
      else if w = cmd55Word then .ok .cmd55
      else if w = acmd41Word then .ok .acmd41
      else .error .noShape

/-- The decoder. -/
def decode (p : Packet) : Except DecodeError Instr :=
  match p with
  | .host l => .ok (decodeHost l)
  | .shape c => .ok (decodeShape c)
  | .act c out bytes => .ok (decodeAct c out bytes)
  | .frame w shape => decodeFrame w shape

/-- All operand lines at zero. -/
def zeroLines (op : BitVec 3) : HostLines := { op := op, shape := 0#3, index := 0#8, arg := 0#32, bytes := [] }

/-- Six zero bytes, the state of the transport port's burst lines when an action does not use them. -/
def zeroFrame : Frame := { b0 := 0#8, b1 := 0#8, b2 := 0#8, b3 := 0#8, b4 := 0#8, b5 := 0#8 }

/-- The packet of an instruction; a line the instruction does not use is zero. -/
def encode (i : Instr) : Packet :=
  match i with
  | .crc7 bytes => .host { zeroLines 0b001#3 with bytes := bytes }
  | .crc16 bytes => .host { zeroLines 0b010#3 with bytes := bytes }
  | .buildFrame index arg => .host { zeroLines 0b011#3 with index := index, arg := arg }
  | .sendCommand shape => .host { zeroLines 0b100#3 with shape := shape }
  | .bringup => .host (zeroLines 0b101#3)
  | .opReserved000 => .host (zeroLines 0b000#3)
  | .opReserved110 => .host (zeroLines 0b110#3)
  | .opReserved111 => .host (zeroLines 0b111#3)
  | .shapeStatus => .shape 0b000#3
  | .shapeBusy => .shape 0b001#3
  | .shapeStatus2 => .shape 0b010#3
  | .shapeOcr => .shape 0b011#3
  | .shapeIfcond => .shape 0b100#3
  | .shapeReserved101 => .shape 0b101#3
  | .shapeReserved110 => .shape 0b110#3
  | .shapeReserved111 => .shape 0b111#3
  | .desel => .act 0b00#2 0#8 zeroFrame
  | .sel => .act 0b01#2 0#8 zeroFrame
  | .xchg out => .act 0b10#2 out zeroFrame
  | .xmit bytes => .act 0b11#2 0#8 bytes
  | .cmd0 => .frame cmd0Word none
  | .cmd8 => .frame cmd8Word none
  | .cmd55 => .frame cmd55Word none
  | .acmd41 => .frame acmd41Word none
  | .cmdN n arg g shape => .frame (commandWord n arg g) (some shape)

/-- The packet of a host request. -/
def requestPacket (r : HostRequest) : Packet :=
  match r with
  | .op l => .host l
  | .command w shape => .frame w shape

/-- The shape beside the frame word of a table row: none for the words of the four named commands, whose rows are
their own, and shape lines of zeros for the row `CMDn` (log entry 3). -/
def tableShape (w : BitVec 48) : Option (BitVec 3) :=
  if w = cmd0Word ∨ w = cmd8Word ∨ w = cmd55Word ∨ w = acmd41Word then none else some 0#3

/-- The request that shows the bits `w` of an opcode-table row of `nbits` bits, every line above them zero: a
48-bit row is a frame word, numbered as the table numbers it (bit 47 first on the wire), and a shorter row is an
`OP[2:0]` code in the low three bits. The shorter words of the other ports (`SHAPE`, `ACT`) have the same bits
as `OP` codes and cannot be told from them here (log entry 3). -/
def tableRequest (nbits w : Nat) : HostRequest :=
  if nbits = 48 then .command (BitVec.ofNat 48 w) (tableShape (BitVec.ofNat 48 w))
  else .op (zeroLines (BitVec.ofNat 3 w))

/-- The instruction the decoder reads from the bits of a table row. -/
def decodeTableWord (nbits w : Nat) : Option Instr :=
  match decode (requestPacket (tableRequest nbits w)) with
  | .ok i => some i
  | .error _ => none

end Sys2Proof
end

