-- ==== Sys2Proof/Machine/State.lean ====
section
/-! DEFINITION. The state of the block (`10_state.md`), as plain data: the three scratch buffers, the chip-select
shadow, the transient state of an operation, the parameters, and the inputs and the record of events at the two
ports. Reset (`70_reset_and_hazards.md` R200) stands at the end. There is no memory: R50 says the block has no
instruction, data or I/O address space. -/

namespace Sys2Proof.Machine

/-- `ARG[0..4)`: the big-endian split of the argument (R23). -/
structure ArgBytes where
  /-- argument bits 31..24 -/
  b0 : Byte
  /-- argument bits 23..16 -/
  b1 : Byte
  /-- argument bits 15..8 -/
  b2 : Byte
  /-- argument bits 7..0 -/
  b3 : Byte
deriving DecidableEq, Repr

/-- `RSP`: five areas, 14 bytes (R24), index 0 the first byte received (R51). -/
structure Rsp where
  status : Vector Byte 1
  busy : Vector Byte 1
  status2 : Vector Byte 2
  ocr : Vector Byte 5
  ifcond : Vector Byte 5
deriving DecidableEq, Repr

/-- The block's record of the last chip-select call it made; `unknown` is R200's own value, until the first
`SEL` or `DESEL` (R27, R200). -/
inductive ChipSelect where
  | unknown | deselected | selected
deriving DecidableEq, Repr

/-- Outcome of a `SEND_COMMAND` (R88). -/
inductive SessionOutcome where
  | response (bytes : List Byte)
  | timeout
  | transportFailure
deriving DecidableEq, Repr

/-- Status code of a `BRINGUP` (R89). -/
inductive StatusCode where
  | ok | errSendFailed | errReset | errIfcheck | errInit
deriving DecidableEq, Repr

/-- What an operation returned to the host (R84). -/
inductive HostResult where
  | crc7 (value : Crc7Value)
  | crc16 (value : Crc16Value)
  | frame (bytes : Frame)
  | outcome (o : SessionOutcome)
  | status (code : StatusCode)
deriving DecidableEq, Repr

/-- What the collaborator returns when it completes one action: the lines of R87. `XCHG` reads both, `XMIT` only
`fail`, `SEL` and `DESEL` neither. -/
structure Reply where
  /-- the action failed -/
  fail : Bool
  /-- the byte in, meaningful only when `fail` is false -/
  data : Byte
deriving DecidableEq, Repr

/-- One completed transport action with what the collaborator returned (R13). -/
inductive Event where
  /-- `SEL` -/
  | sel
  /-- `DESEL` -/
  | desel
  /-- `X(oo)=ii`, or `X(oo)=FAIL` when there is no byte in -/
  | xchg (out : Byte) (inp : Option Byte)
  /-- `T(b0 b1 b2 b3 b4 b5)=ok`, or `=FAIL` -/
  | xmit (bytes : Frame) (ok : Bool)
deriving DecidableEq, Repr

/-- Who waits for the outcome of the session in progress: the host (R126), or one of the four places of `BRINGUP`
that send a command (R150). -/
inductive SessionCaller where
  | host | reset | ifcheck | roundPrefix | roundInit
deriving DecidableEq, Repr

/-- Where in the pseudocode of `SEND_COMMAND` the block stands (R126): each position but `dispatch` is one
outstanding transport action. -/
inductive SessionPos where
  /-- step 1, first idle byte -/
  | leadIdle
  /-- step 1, `SEL` -/
  | select
  /-- step 1, second idle byte -/
  | settleIdle
  /-- step 2, `XMIT` -/
  | sendFrame
  /-- step 3, idle byte -/
  | tailIdle
  /-- step 3, `DESEL` -/
  | deselect
  /-- entry to step 5: the shape is given to the dispatcher (R140) -/
  | dispatch
  /-- step 5, a poll -/
  | poll
  /-- step 5, a byte of the burst -/
  | burst
  /-- `failed:`, the `DESEL` of the failure exit -/
  | failDeselect
deriving DecidableEq, Repr

/-- The steps of `BRINGUP` that end in an `EPILOGUE` (R156). -/
inductive BringupStep where
  | reset | ifcheck | handshake
deriving DecidableEq, Repr

/-- `SEQ`, the sequencer position (R30). -/
inductive SeqPos where
  /-- no operation in progress -/
  | idle
  /-- `BRINGUP` step 1, `DESEL` -/
  | preDeselect
  /-- `BRINGUP` step 1, an idle byte; `sent` have been exchanged -/
  | preIdle (sent : Nat)
  /-- `BRINGUP` step 2, `SEL` on entry -/
  | resetSelect
  /-- `BRINGUP` step 2, start of a reset attempt -/
  | resetAttempt
  /-- `BRINGUP` step 3, the interface check is sent -/
  | ifcheckCommand
  /-- `BRINGUP` step 4, start of a round: the prefix is sent -/
  | roundPrefix
  /-- `BRINGUP` step 4, the initialization command is sent -/
  | roundInit
  /-- inside a `SEND_COMMAND` -/
  | session (caller : SessionCaller) (pos : SessionPos)
  /-- `EPILOGUE`, `DESEL` -/
  | epilogueDeselect (st : BringupStep)
  /-- `EPILOGUE`, the trailing idle byte -/
  | epilogueIdle (st : BringupStep)
  /-- `DONE`: the status code is decided and about to be returned (R30, R167) -/
  | done
deriving DecidableEq, Repr

/-- One byte of `FRAME`, `ARG` or `RSP`, by buffer, area and index (R51, R52). -/
inductive BufferByte where
  | frame (i : Fin 6)
  | arg (i : Fin 4)
  | status (i : Fin 1)
  | busy (i : Fin 1)
  | status2 (i : Fin 2)
  | ocr (i : Fin 5)
  | ifcond (i : Fin 5)
deriving DecidableEq, Repr

/-- The faults: none. "No exceptions/panics cross the core boundary; every operation returns a discriminated
outcome" (R12, R180); every failure is an outcome or a status code in State, and a collaborator that does not
return is a step that changes nothing (R124). Safe: nothing ever answers one. -/
inductive Fault where
deriving DecidableEq, Repr

/-- The refusals of the model. A request the spec calls refused is none of them: that has an effect, the state as it
is (R84; `refuseRequest`). -/
inductive Refusal where
  /-- Raised by an arm of `exec` whose instruction has no meaning yet. Safe. No arm does. -/
  | notModelled (mnemonic : String)
  /-- Raised by `step` on a host word that is no row of the opcode table: one without the fixed marker bits (R70), or a
  frame that is no named command with no shape beside it (R91). Safe. -/
  | noCommandFrame (why : DecodeError)
deriving DecidableEq, Repr

/-- The state of the block and of its two ports. -/
structure State where
  /-- the instance's parameters; no step writes them (R7, R38) -/
  params : Params
  /-- `SEQ` (R30) -/
  seq : SeqPos
  /-- `FRAME[0..6)` (R22) -/
  frame : Frame
  /-- `ARG[0..4)` (R23) -/
  arg : ArgBytes
  /-- whether a `BUILD_FRAME` has run since reset (R22, R200): `FRAME` and `ARG` have a specified value; without it
  `SEND_COMMAND` is refused (R201) -/
  frameBuilt : Bool
  /-- `RSP` (R24) -/
  rsp : Rsp
  /-- `CS` (R27) -/
  cs : ChipSelect
  /-- `CRC7_REG` (R28) -/
  crc7Reg : Crc7Value
  /-- `CRC16_REG` (R29) -/
  crc16Reg : Crc16Value
  /-- `RESET_TRY` (R31) -/
  resetTry : Nat
  /-- `ROUND` (R32) -/
  round : Nat
  /-- `POLL_CNT` (R33) -/
  pollCnt : Nat
  /-- `BURST_IDX` (R34) -/
  burstIdx : Nat
  /-- the shape operand the dispatcher works with (R126, R140) -/
  shape : Shape
  /-- `OUTCOME` (R35) -/
  outcome : Option SessionOutcome
  /-- `STATUS_CODE` (R36): the verdict of the `BRINGUP`, once there is one -/
  statusCode : Option StatusCode
  /-- host port: what the last ended operation returned (R84, R196) -/
  result : Option HostResult
  /-- host port: the requests the host has still to present, first first (R196) -/
  requests : List HostRequest
  /-- transport port: the collaborator's returns still to come, first first (R87, R122) -/
  replies : List Reply
  /-- the trace: the events so far, first first (R13, R54) -/
  trace : List Event
deriving DecidableEq, Repr

/-- All 14 bytes of `RSP` at the idle-sentinel pattern (R143). -/
def Rsp.filled : Rsp :=
  { status := Vector.replicate 1 0xFF#8, busy := Vector.replicate 1 0xFF#8, status2 := Vector.replicate 2 0xFF#8,
    ocr := Vector.replicate 5 0xFF#8, ifcond := Vector.replicate 5 0xFF#8 }

/-- The block right after reset (R200): `SEQ` idle, `RSP` all `0xFF`, `CS` unknown, the parameters the instance's
own. `FRAME` and `ARG` are unspecified: they hold free values, constants without a body (log entry 5). The transient
state has no value between operations and holds zeros (log entry 6). The ports are empty (log entry 2). -/
def State.reset : State :=
  { params := Params.default
    seq := .idle
    frame :=
      { b0 := Config.resetFrameByte 0, b1 := Config.resetFrameByte 1, b2 := Config.resetFrameByte 2,
        b3 := Config.resetFrameByte 3, b4 := Config.resetFrameByte 4, b5 := Config.resetFrameByte 5 }
    arg :=
      { b0 := Config.resetArgByte 0, b1 := Config.resetArgByte 1, b2 := Config.resetArgByte 2,
        b3 := Config.resetArgByte 3 }
    frameBuilt := false
    rsp := Rsp.filled
    cs := .unknown
    crc7Reg := 0#7
    crc16Reg := 0#16
    resetTry := 0
    round := 0
    pollCnt := 0
    burstIdx := 0
    shape := .status
    outcome := none
    statusCode := none
    result := none
    requests := []
    replies := []
    trace := [] }

end Sys2Proof.Machine
end

