-- ==== Sys2Proof/Machine/Flags.lean ====
section
/-! DEFINITION. The flag-like values (R39): the status byte of a response (R80), the whole-byte comparisons `BRINGUP`
makes with it (R154, R158, R160, R161), and the codes of outcomes and status codes (R88, R89). The block has no
flag of its own and no operation writes one. -/

namespace Sys2Proof.Machine

/-- Status byte bit 0 (R80). -/
def idleStateFlag (b : Byte) : Bool := b[0]
/-- Status byte bit 1 (R80). -/
def eraseResetFlag (b : Byte) : Bool := b[1]
/-- Status byte bit 2 (R80). -/
def illegalCommandFlag (b : Byte) : Bool := b[2]
/-- Status byte bit 3 (R80). -/
def crcErrorFlag (b : Byte) : Bool := b[3]
/-- Status byte bit 4 (R80). -/
def eraseSequenceFlag (b : Byte) : Bool := b[4]
/-- Status byte bit 5 (R80). -/
def addressErrorFlag (b : Byte) : Bool := b[5]
/-- Status byte bit 6 (R80). -/
def parameterErrorFlag (b : Byte) : Bool := b[6]

/-- A legacy reset status as a byte (R154). -/
def legacyByte (v : Fin 255) : Byte := BitVec.ofNat 8 v.val

/-- `RESET_ACCEPT` (R154). -/
def resetAccept (p : Params) : List Byte :=
  [Config.idleStatus, legacyByte p.resetLegacyA, legacyByte p.resetLegacyB]

/-- `o = Response([s]) and s in RESET_ACCEPT` on the bytes of the response (R153). -/
def resetAccepted (p : Params) (bytes : List Byte) : Bool :=
  match bytes with
  | [s] => (resetAccept p).contains s
  | _ => false

/-- The three tests of bring-up step 3 on the bytes of the response (R158). -/
def ifcondValid (bytes : List Byte) : Bool :=
  bytes[0]? == some Config.idleStatus && bytes[3]? == some Config.ifcondVoltage &&
    bytes[4]? == some Config.ifcondPattern

/-- `Response([IDLE_STATUS])` (R160). -/
def prefixAccepted (bytes : List Byte) : Bool := bytes == [Config.idleStatus]

/-- `Response([READY_STATUS])` (R161). -/
def initReady (bytes : List Byte) : Bool := bytes == [Config.readyStatus]

/-- The code of an outcome (R88). -/
def outcomeCode (o : SessionOutcome) : Nat :=
  match o with
  | .response _ => 0
  | .timeout => 1
  | .transportFailure => 2

/-- The 8-bit status code (R89). -/
def statusByte (c : StatusCode) : Byte :=
  match c with
  | .ok => 0#8
  | .errSendFailed => 1#8
  | .errReset => 2#8
  | .errIfcheck => 3#8
  | .errInit => 4#8

end Sys2Proof.Machine
end

