-- ==== Sys2Proof/Machine/Ops.lean ====
section
/-! DEFINITION. The named operations over the state: buffers, chip-select shadow, trace, the acceptance of a host
request, the wait for the collaborator, and, in the place of taking an exception, the failure exits of a session
and of a bring-up step (R134, R156, R184) with the return to the host beside them (R167, R197). -/

namespace Sys2Proof.Machine

/-! ### Buffers -/

/-- The area of a shape, its bytes in the order received (R24, R59). -/
def rspArea (r : Rsp) (sh : Shape) : List Byte :=
  match sh with
  | .status => r.status.toList
  | .busy => r.busy.toList
  | .status2 => r.status2.toList
  | .ocr => r.ocr.toList
  | .ifcond => r.ifcond.toList

/-- `area(shape)[i] <- v`; there is no index past the end of an area (R51, R132). -/
def rspWrite (r : Rsp) (sh : Shape) (i : Nat) (v : Byte) : Rsp :=
  match sh with
  | .status => { r with status := r.status.setIfInBounds i v }
  | .busy => { r with busy := r.busy.setIfInBounds i v }
  | .status2 => { r with status2 := r.status2.setIfInBounds i v }
  | .ocr => { r with ocr := r.ocr.setIfInBounds i v }
  | .ifcond => { r with ifcond := r.ifcond.setIfInBounds i v }

/-- One byte of the buffers. -/
def readByte (b : BufferByte) (s : State) : Byte :=
  match b with
  | .frame i => (frameBytes s.frame).get i
  | .arg i => [s.arg.b0, s.arg.b1, s.arg.b2, s.arg.b3].get i
  | .status i => s.rsp.status.get i
  | .busy i => s.rsp.busy.get i
  | .status2 i => s.rsp.status2.get i
  | .ocr i => s.rsp.ocr.get i
  | .ifcond i => s.rsp.ifcond.get i

/-- Whether a buffer byte has a specified value: `FRAME` and `ARG` only once a frame has been built (R200). -/
def byteSpecified (b : BufferByte) (s : State) : Bool :=
  match b with
  | .frame _ => s.frameBuilt
  | .arg _ => s.frameBuilt
  | _ => true

/-- A host read: possible only when no operation is in progress, without side effect (R52). A byte with no
specified value gives none. -/
def hostRead (b : BufferByte) (s : State) : Option Byte :=
  if s.seq = .idle ∧ byteSpecified b s = true then some (readByte b s) else none

/-- `RSP_FILL()` (R143). -/
def fillRsp (s : State) : State := { s with rsp := Rsp.filled }

/-- A received byte into the area of the shape in progress. -/
def storeByte (i : Nat) (v : Byte) (s : State) : State := { s with rsp := rspWrite s.rsp s.shape i v }

/-- The argument bytes of a frame, `FRAME[1..5)` (R23). -/
def frameArg (f : Frame) : ArgBytes := { b0 := f.b1, b1 := f.b2, b2 := f.b3, b3 := f.b4 }

/-- `FRAME` and `ARG` written together, all six and all four bytes (R22, R23). -/
def writeFrame (f : Frame) (s : State) : State := { s with frame := f, arg := frameArg f, frameBuilt := true }

/-- The CRC-7 register after a `BUILD_FRAME`: the engine runs only for an index without a literal (R110, R112). -/
def frameCrcReg (index : BitVec 8) (arg : Arg32) (reg : Crc7Value) : Crc7Value :=
  match fixedCrcByte index with
  | some _ => reg
  | none => crc7 (frameHead index arg)

/-- `BUILD_FRAME(index, arg)` inside an operation (R110). -/
def framerBuild (index : BitVec 8) (arg : Arg32) (s : State) : State :=
  writeFrame (buildFrame index arg) { s with crc7Reg := frameCrcReg index arg s.crc7Reg }

/-! ### Events -/

/-- `SEQ` moves (R30). -/
def goto (p : SeqPos) (s : State) : State := { s with seq := p }

/-- `CS` follows the chip-select calls (R27). -/
def setCs (c : ChipSelect) (s : State) : State := { s with cs := c }

/-- An outstanding action: nothing moves until the collaborator returns (R124, R219); when it does, its reply is
taken, the event is recorded (R13) and the calling rule goes on. -/
def awaitReply (event : Reply → Event) (goOn : Reply → State → State) (s : State) :
    Host.Outcome State Fault Refusal :=
  match s.replies with
  | [] => .next s
  | r :: rest => .next (goOn r { s with replies := rest, trace := s.trace ++ [event r] })

/-! ### The start of an operation -/

/-- The transient state is re-initialised at the start of each operation (R41). -/
def clearTransient (s : State) : State :=
  { s with
    crc7Reg := 0#7, crc16Reg := 0#16, resetTry := 0, round := 0, pollCnt := 0, burstIdx := 0,
    outcome := none, statusCode := none, result := none }

/-- A request the block refuses, in R84's words "no event, no state change, no result": the block goes on as it is.
Reserved codes (R84, R85), a `SEND_COMMAND` before any `BUILD_FRAME` since reset (R22, R201), a request to a busy block
(R196). -/
def refuseRequest (s : State) : Host.Outcome State Fault Refusal := .next s

/-- The host handshake: a request is accepted only when `SEQ` is idle; otherwise it is not accepted and has no
effect (R196). -/
def accept (run : State → Host.Outcome State Fault Refusal) (s : State) : Host.Outcome State Fault Refusal :=
  if s.seq = .idle then run (clearTransient s) else refuseRequest s

/-- A `BUILD_FRAME` request (R110, R113): always succeeds, whatever the index. -/
def buildFrameRequest (index : BitVec 8) (arg : Arg32) (s : State) : Host.Outcome State Fault Refusal :=
  accept (fun s => .next { framerBuild index arg s with result := some (.frame (buildFrame index arg)) }) s

/-- A `SEND_COMMAND` begins: its shape operand is kept, its outcome is open (R126). -/
def startSession (c : SessionCaller) (sh : Shape) (s : State) : State :=
  { s with shape := sh, outcome := none, seq := .session c .leadIdle }

/-! ### Failure exits and returns -/

/-- `goto failed` of a session (R126, R134): the one `DESEL` of the failure exit is next. -/
def failSession (c : SessionCaller) (s : State) : State := goto (.session c .failDeselect) s

/-- A bring-up step is left through its `EPILOGUE`, with the verdict it has reached if any (R156, R165). -/
def enterEpilogue (st : BringupStep) (verdict : Option StatusCode) (s : State) : State :=
  { s with statusCode := verdict, seq := .epilogueDeselect st }

/-- `return code` of `BRINGUP`: `DONE(code)` (R167). -/
def finishBringup (code : StatusCode) (s : State) : State := { s with statusCode := some code, seq := .done }

/-- `DONE(code)` to `IDLE`: the result is returned to the host (R167, R197). -/
def returnStatus (s : State) : State := { s with result := s.statusCode.map .status, seq := .idle }

/-- Reset of the block from any state, in the middle of an operation or not (R200, R201): the interrupted
operation returns nothing, the parameters stay, and what the host and the collaborator still have to give and the
events already seen are outside the block. What `FRAME` and `ARG` hold after it is unspecified: `f` and `a` are any
(log entries 5 and 15). -/
def blockReset (f : Frame) (a : ArgBytes) (s : State) : State :=
  { State.reset with
    frame := f, arg := a, params := s.params, requests := s.requests, replies := s.replies, trace := s.trace }

end Sys2Proof.Machine
end

