-- ==== Sys2Proof/Machine/Sequencer.lean ====
section
/-! DEFINITION. The sequencer: how `SEQ` goes on after each completed action, line by line of the pseudocode of
`SEND_COMMAND` (R126) and `BRINGUP` (R150), and which instruction the position issues next (the block's fetch). -/

namespace Sys2Proof.Machine

/-! ### BRINGUP: loops and verdicts -/

/-- `repeat PRE_RESET_IDLE_BYTES times`, with `sent` bytes exchanged (R151). -/
def preIdleNext (sent : Nat) (s : State) : State :=
  if sent < s.params.preResetIdleBytes then goto (.preIdle sent) s else goto .resetSelect s

/-- `while RESET_TRY < RESET_RETRY_MAX`; exhaustion is `ERR_RESET` (R153, R155). -/
def nextAttempt (s : State) : State :=
  if s.resetTry < s.params.resetRetryMax then goto .resetAttempt s
  else enterEpilogue .reset (some .errReset) s

/-- Entry to step 2 after its `SEL` (R31, R152). -/
def enterReset (s : State) : State := nextAttempt { s with resetTry := 0 }

/-- `while ROUND < HANDSHAKE_ROUNDS_MAX`; exhaustion is `ERR_INIT` (R159, R162). -/
def nextRound (s : State) : State :=
  if s.round < s.params.handshakeRoundsMax then goto .roundPrefix s
  else enterEpilogue .handshake (some .errInit) s

/-- Entry to step 4 (R32). -/
def enterHandshake (s : State) : State := nextRound { s with round := 0 }

/-- Step 2 after an attempt (R153, R164). -/
def afterReset (o : SessionOutcome) (s : State) : State :=
  match o with
  | .transportFailure => enterEpilogue .reset (some .errSendFailed) s
  | .timeout => nextAttempt s
  | .response bytes => if resetAccepted s.params bytes then enterEpilogue .reset none s else nextAttempt s

/-- The verdict of step 3, none when the response is accepted (R158, R164, R166). -/
def ifcheckVerdict (o : SessionOutcome) : Option StatusCode :=
  match o with
  | .transportFailure => some .errSendFailed
  | .timeout => some .errIfcheck
  | .response bytes => if ifcondValid bytes then none else some .errIfcheck

/-- Step 4 after the prefix (R160, R164). -/
def afterPrefix (o : SessionOutcome) (s : State) : State :=
  match o with
  | .transportFailure => enterEpilogue .handshake (some .errSendFailed) s
  | .timeout => nextRound s
  | .response bytes => if prefixAccepted bytes then goto .roundInit s else nextRound s

/-- Step 4 after the initialization command (R161, R164). -/
def afterInit (o : SessionOutcome) (s : State) : State :=
  match o with
  | .transportFailure => enterEpilogue .handshake (some .errSendFailed) s
  | .timeout => nextRound s
  | .response bytes => if initReady bytes then enterEpilogue .handshake none s else nextRound s

/-- A step whose `EPILOGUE` ended well and that has no failure verdict: on to the next (R150, R167). -/
def nextStep (st : BringupStep) (s : State) : State :=
  match st with
  | .reset => goto .ifcheckCommand s
  | .ifcheck => enterHandshake s
  | .handshake => finishBringup .ok s

/-- After the trailing idle byte: the step's own verdict wins, then a failed byte, then success (R165). -/
def afterEpilogue (st : BringupStep) (r : Reply) (s : State) : State :=
  match s.statusCode with
  | some code => finishBringup code s
  | none => if r.fail then finishBringup .errSendFailed s else nextStep st s

/-! ### SEND_COMMAND -/

/-- `return` of a session: the outcome goes to whoever called it (R126, R142, R197). -/
def endSession (c : SessionCaller) (o : SessionOutcome) (s : State) : State :=
  match c with
  | .host => { s with outcome := some o, result := some (.outcome o), seq := .idle }
  | .reset => afterReset o { s with outcome := some o }
  | .ifcheck => enterEpilogue .ifcheck (ifcheckVerdict o) { s with outcome := some o }
  | .roundPrefix => afterPrefix o { s with outcome := some o }
  | .roundInit => afterInit o { s with outcome := some o }

/-- An idle byte or the frame of steps 1 to 3: `FAIL` goes to `failed`, anything else on (R127 to R129). -/
def sessionGoOn (c : SessionCaller) (p : SessionPos) (r : Reply) (s : State) : State :=
  if r.fail then failSession c s else goto (.session c p) s

/-- `while POLL_CNT < bound(shape)`; exhaustion is `Timeout` (R131, R133). -/
def enterPoll (c : SessionCaller) (s : State) : State :=
  if s.pollCnt < pollBound s.params s.shape then
    { s with pollCnt := s.pollCnt + 1, seq := .session c .poll }
  else endSession c .timeout s

/-- `return Response(area(shape)[0 .. len(shape)))` (R142). -/
def respond (c : SessionCaller) (s : State) : State := endSession c (.response (rspArea s.rsp s.shape)) s

/-- After a poll: `FAIL`, no response yet, or byte 0 of the response (R131, R132, R134). -/
def afterPoll (c : SessionCaller) (r : Reply) (s : State) : State :=
  if r.fail then failSession c s
  else if r.data = Config.idleByte then enterPoll c s
  else if shapeLength s.shape = 1 then respond c (storeByte 0 r.data s)
  else { storeByte 0 r.data s with burstIdx := 1, seq := .session c .burst }

/-- After a byte of the burst, stored whatever its value (R132). -/
def afterBurst (c : SessionCaller) (r : Reply) (s : State) : State :=
  if r.fail then failSession c s
  else if s.burstIdx + 1 < shapeLength s.shape then
    { storeByte s.burstIdx r.data s with burstIdx := s.burstIdx + 1 }
  else respond c (storeByte s.burstIdx r.data s)

/-! ### After an action -/

/-- How the calling rule goes on after a `SEL`. -/
def afterSel (s : State) : State :=
  match s.seq with
  | .resetSelect => enterReset s
  | .session c .select => goto (.session c .settleIdle) s
  | _ => s

/-- How the calling rule goes on after a `DESEL`; `RSP_FILL` (step 4) follows the `DESEL` of step 3 (R130). -/
def afterDesel (s : State) : State :=
  match s.seq with
  | .preDeselect => preIdleNext 0 s
  | .session c .deselect => goto (.session c .dispatch) (fillRsp s)
  | .session c .failDeselect => endSession c .transportFailure s
  | .epilogueDeselect st => goto (.epilogueIdle st) s
  | _ => s

/-- How the calling rule goes on after an `XCHG`. -/
def afterXchg (r : Reply) (s : State) : State :=
  match s.seq with
  | .preIdle sent => if r.fail then finishBringup .errSendFailed s else preIdleNext (sent + 1) s
  | .session c .leadIdle => sessionGoOn c .select r s
  | .session c .settleIdle => sessionGoOn c .sendFrame r s
  | .session c .tailIdle => sessionGoOn c .deselect r s
  | .session c .poll => afterPoll c r s
  | .session c .burst => afterBurst c r s
  | .epilogueIdle st => afterEpilogue st r s
  | _ => s

/-- How the calling rule goes on after an `XMIT`. -/
def afterXmit (r : Reply) (s : State) : State :=
  match s.seq with
  | .session c .sendFrame => sessionGoOn c .tailIdle r s
  | _ => s

/-! ### Commands and shapes -/

/-- Who a command frame is sent for at this position; none where the block takes no command. -/
def commandCaller (p : SeqPos) : Option SessionCaller :=
  match p with
  | .idle => some .host
  | .resetAttempt => some .reset
  | .ifcheckCommand => some .ifcheck
  | .roundPrefix => some .roundPrefix
  | .roundInit => some .roundInit
  | _ => none

/-- The `BUILD_FRAME` of a command with what stands around it: for the host the `SEND_COMMAND` that follows is an
operation of its own (R41, R91); in `BRINGUP` `RESET_TRY + 1` (R153) or `ROUND + 1` (R159) comes before it. -/
def buildCommand (c : SessionCaller) (index : BitVec 8) (arg : Arg32) (s : State) : State :=
  match c with
  | .host => clearTransient (framerBuild index arg s)
  | .reset => framerBuild index arg { s with resetTry := s.resetTry + 1 }
  | .ifcheck => framerBuild index arg s
  | .roundPrefix => framerBuild index arg { s with round := s.round + 1 }
  | .roundInit => framerBuild index arg s

/-- `BUILD_FRAME index, arg` then `SEND_COMMAND shape` (R91, R150). -/
def issueCommand (index : BitVec 8) (arg : Arg32) (sh : Shape) (s : State) : Host.Outcome State Fault Refusal :=
  match commandCaller s.seq with
  | some c => .next (startSession c sh (buildCommand c index arg s))
  | none => refuseRequest s

/-- The dispatcher is given a shape (R140): at the entry to step 5 the poll begins with it (R33, R131); on the
idle block it only becomes the shape selected; anywhere else the shape of a response does not change. -/
def dispatchShape (sh : Shape) (s : State) : Host.Outcome State Fault Refusal :=
  match s.seq with
  | .idle => .next { s with shape := sh }
  | .session c .dispatch => .next (enterPoll c { s with shape := sh, pollCnt := 0 })
  | _ => .next s

/-! ### Fetch -/

/-- The table's row of a shape (R85). -/
def shapeInstr (sh : Shape) : Instr :=
  match sh with
  | .status => .shapeStatus
  | .busy => .shapeBusy
  | .status2 => .shapeStatus2
  | .ocr => .shapeOcr
  | .ifcond => .shapeIfcond

/-- The instruction a position of a session issues (R126). -/
def sessionInstr (p : SessionPos) (s : State) : Instr :=
  match p with
  | .leadIdle => .xchg Config.idleByte
  | .select => .sel
  | .settleIdle => .xchg Config.idleByte
  | .sendFrame => .xmit s.frame
  | .tailIdle => .xchg Config.idleByte
  | .deselect => .desel
  | .dispatch => shapeInstr s.shape
  | .poll => .xchg Config.idleByte
  | .burst => .xchg Config.idleByte
  | .failDeselect => .desel

/-- The instruction the sequencer issues at its position; none when no operation is in progress and at `DONE`
(R126, R150). -/
def issuedInstr (s : State) : Option Instr :=
  match s.seq with
  | .idle => none
  | .preDeselect => some .desel
  | .preIdle _ => some (.xchg Config.idleByte)
  | .resetSelect => some .sel
  | .resetAttempt => some .cmd0
  | .ifcheckCommand => some .cmd8
  | .roundPrefix => some .cmd55
  | .roundInit => some .acmd41
  | .session _ p => some (sessionInstr p s)
  | .epilogueDeselect _ => some .desel
  | .epilogueIdle _ => some (.xchg Config.idleByte)
  | .done => none

/-- The block's fetch, which stands where a processor has an instruction fetch (R30, R66): the packet to decode
and the state with it taken. The idle block takes the host's next request (R196); a block at work takes what its
sequencer issues. -/
def fetchPacket (s : State) : Option (Packet × State) :=
  match s.seq with
  | .idle =>
    match s.requests with
    | [] => none
    | r :: rest => some (requestPacket r, { s with requests := rest })
  | _ => (issuedInstr s).map fun i => (encode i, s)

end Sys2Proof.Machine
end

