-- ==== Sys2Proof/Machine/Bringup.lean ====
section
/-! DEFINITION. The meaning of `BRINGUP` (`44_bringup.md`). -/

namespace Sys2Proof.Machine

/-- `BRINGUP` (R150): accepted when idle, it begins with the `DESEL` of step 1 (R151, R167); the sequencer does the
rest, one action a step. -/
def execBringup (s : State) : Host.Outcome State Fault Refusal := accept (fun s => .next (goto .preDeselect s)) s

end Sys2Proof.Machine
end

