-- ==== Sys2Proof/Machine/CrcEngine.lean ====
section
/-! DEFINITION. The meanings of `CRC7` and `CRC16` (`40_crc.md`). -/

namespace Sys2Proof.Machine

/-- `CRC7 bytes` (R100): the result is returned, only the transient state is written, no event is issued. -/
def execCrc7 (bytes : List Byte) (s : State) : Host.Outcome State Fault Refusal :=
  accept (fun s => .next { s with crc7Reg := crc7 bytes, result := some (.crc7 (crc7 bytes)) }) s

/-- `CRC16 bytes` (R104). -/
def execCrc16 (bytes : List Byte) (s : State) : Host.Outcome State Fault Refusal :=
  accept (fun s => .next { s with crc16Reg := crc16 bytes, result := some (.crc16 (crc16 bytes)) }) s

end Sys2Proof.Machine
end

