-- ==== Sys2Proof/Machine/Framer.lean ====
section
/-! DEFINITION. The meanings of `BUILD_FRAME` and of the command frames (`41_framer.md`). -/

namespace Sys2Proof.Machine

/-- `BUILD_FRAME index, arg` (R110, R113): always succeeds, whatever the index. -/
def execBuildFrame (index : BitVec 8) (arg : Arg32) (s : State) : Host.Outcome State Fault Refusal :=
  buildFrameRequest index arg s

/-- `CMD0`, the reset command (R91, R114). -/
def execCmd0 (s : State) : Host.Outcome State Fault Refusal := issueCommand 0#8 Config.cmd0Arg .status s

/-- `CMD8`, the interface check (R91, R115). -/
def execCmd8 (s : State) : Host.Outcome State Fault Refusal := issueCommand 8#8 Config.cmd8Arg .ifcond s

/-- `CMD55`, the application-command prefix (R91, R116). -/
def execCmd55 (s : State) : Host.Outcome State Fault Refusal := issueCommand 55#8 Config.cmd55Arg .status s

/-- `ACMD41`, the initialization command (R91, R117). -/
def execAcmd41 (s : State) : Host.Outcome State Fault Refusal := issueCommand 41#8 Config.acmd41Arg .status s

/-- `CMDn`, R91's `CMD n, arg, shape` (R118): `BUILD_FRAME n, arg` then `SEND_COMMAND shape`. With a reserved shape the
first request runs and the second is refused (R85). The CRC byte is the framer's (log entry 4). -/
def execCmdN (n : BitVec 6) (arg : Arg32) (shape : BitVec 3) (s : State) : Host.Outcome State Fault Refusal :=
  match shapeOfCode shape with
  | some sh => issueCommand (indexOperand n) arg sh s
  | none => buildFrameRequest (indexOperand n) arg s

end Sys2Proof.Machine
end

