-- ==== Sys2Proof/Machine/HostPort.lean ====
section
/-! DEFINITION. The meanings of the reserved operation codes (`30_encoding.md` R84): refused, with no effect. -/

namespace Sys2Proof.Machine

/-- Reserved operation code `0b000` (R84). -/
def execOpReserved000 (s : State) : Host.Outcome State Fault Refusal := refuseRequest s

/-- Reserved operation code `0b110` (R84). -/
def execOpReserved110 (s : State) : Host.Outcome State Fault Refusal := refuseRequest s

/-- Reserved operation code `0b111` (R84). -/
def execOpReserved111 (s : State) : Host.Outcome State Fault Refusal := refuseRequest s

end Sys2Proof.Machine
end

