-- ==== Sys2Proof/Machine/Response.lean ====
section
/-! DEFINITION. The meanings of the shape codes (`43_response.md`): the dispatcher selects by the code alone (R140). -/

namespace Sys2Proof.Machine

/-- `SHAPE_STATUS` (R144). -/
def execShapeStatus (s : State) : Host.Outcome State Fault Refusal := dispatchShape .status s

/-- `SHAPE_BUSY` (R145). -/
def execShapeBusy (s : State) : Host.Outcome State Fault Refusal := dispatchShape .busy s

/-- `SHAPE_STATUS2` (R146). -/
def execShapeStatus2 (s : State) : Host.Outcome State Fault Refusal := dispatchShape .status2 s

/-- `SHAPE_OCR` (R147). -/
def execShapeOcr (s : State) : Host.Outcome State Fault Refusal := dispatchShape .ocr s

/-- `SHAPE_IFCOND` (R148). -/
def execShapeIfcond (s : State) : Host.Outcome State Fault Refusal := dispatchShape .ifcond s

/-- Reserved shape code `0b101`: refused (R85). -/
def execShapeReserved101 (s : State) : Host.Outcome State Fault Refusal := refuseRequest s

/-- Reserved shape code `0b110`: refused (R85). -/
def execShapeReserved110 (s : State) : Host.Outcome State Fault Refusal := refuseRequest s

/-- Reserved shape code `0b111`: refused (R85). -/
def execShapeReserved111 (s : State) : Host.Outcome State Fault Refusal := refuseRequest s

end Sys2Proof.Machine
end

