-- ==== Sys2Proof/Machine/Transport.lean ====
section
/-! DEFINITION. The meanings of the four transport actions and of `SEND_COMMAND` (`42_transport.md`). -/

namespace Sys2Proof.Machine

/-- `SEL`: `CS <- 1`, event `SEL` (R120). -/
def execSel (s : State) : Host.Outcome State Fault Refusal :=
  awaitReply (fun _ => .sel) (fun _ s => afterSel (setCs .selected s)) s

/-- `DESEL`: `CS <- 0`, event `DESEL` (R121). -/
def execDesel (s : State) : Host.Outcome State Fault Refusal :=
  awaitReply (fun _ => .desel) (fun _ s => afterDesel (setCs .deselected s)) s

/-- The event of an `XCHG` (R13, R122). -/
def xchgEvent (out : Byte) (r : Reply) : Event := .xchg out (if r.fail then none else some r.data)

/-- `XCHG out` (R122): inside the block there is no effect but what the calling rule does with the byte. -/
def execXchg (out : Byte) (s : State) : Host.Outcome State Fault Refusal :=
  awaitReply (xchgEvent out) afterXchg s

/-- The event of an `XMIT` (R13, R123). -/
def xmitEvent (bytes : Frame) (r : Reply) : Event := .xmit bytes (!r.fail)

/-- `XMIT b[0..6)` (R123): what comes in during the burst is discarded. -/
def execXmit (bytes : Frame) (s : State) : Host.Outcome State Fault Refusal :=
  awaitReply (xmitEvent bytes) afterXmit s

/-- `SEND_COMMAND shape` (R126): the session begins with `FRAME` as the last `BUILD_FRAME` left it; its actions are the
steps that follow. It is refused with a reserved shape (R85), and when no `BUILD_FRAME` has run since reset, since
`FRAME` then has no specified value (R22, R201). -/
def execSendCommand (shape : BitVec 3) (s : State) : Host.Outcome State Fault Refusal :=
  match shapeOfCode shape with
  | none => refuseRequest s
  | some sh => if s.frameBuilt then accept (fun s => .next (startSession .host sh s)) s else refuseRequest s

end Sys2Proof.Machine
end

