-- ==== Sys2Proof/Machine/Dispatch.lean ====
section
/-! DEFINITION. One arm per constructor of `Instr`, each one direct call of its meaning. -/

namespace Sys2Proof.Machine

def exec (i : Instr) (s : State) : Host.Outcome State Fault Refusal :=
  match i with
  | .crc7 bytes => Sys2Proof.Machine.execCrc7 bytes s
  | .crc16 bytes => Sys2Proof.Machine.execCrc16 bytes s
  | .buildFrame index arg => Sys2Proof.Machine.execBuildFrame index arg s
  | .sendCommand shape => Sys2Proof.Machine.execSendCommand shape s
  | .bringup => Sys2Proof.Machine.execBringup s
  | .opReserved000 => Sys2Proof.Machine.execOpReserved000 s
  | .opReserved110 => Sys2Proof.Machine.execOpReserved110 s
  | .opReserved111 => Sys2Proof.Machine.execOpReserved111 s
  | .shapeStatus => Sys2Proof.Machine.execShapeStatus s
  | .shapeBusy => Sys2Proof.Machine.execShapeBusy s
  | .shapeStatus2 => Sys2Proof.Machine.execShapeStatus2 s
  | .shapeOcr => Sys2Proof.Machine.execShapeOcr s
  | .shapeIfcond => Sys2Proof.Machine.execShapeIfcond s
  | .shapeReserved101 => Sys2Proof.Machine.execShapeReserved101 s
  | .shapeReserved110 => Sys2Proof.Machine.execShapeReserved110 s
  | .shapeReserved111 => Sys2Proof.Machine.execShapeReserved111 s
  | .desel => Sys2Proof.Machine.execDesel s
  | .sel => Sys2Proof.Machine.execSel s
  | .xchg out => Sys2Proof.Machine.execXchg out s
  | .xmit bytes => Sys2Proof.Machine.execXmit bytes s
  | .cmd0 => Sys2Proof.Machine.execCmd0 s
  | .cmd8 => Sys2Proof.Machine.execCmd8 s
  | .cmd55 => Sys2Proof.Machine.execCmd55 s
  | .acmd41 => Sys2Proof.Machine.execAcmd41 s
  | .cmdN n arg _ shape => Sys2Proof.Machine.execCmdN n arg shape s

end Sys2Proof.Machine
end

