-- ==== Sys2Proof/Machine/Step.lean ====
section
/-! DEFINITION. One step: the packet at the block's fetch is decoded and executed, one event or one piece of internal
work between events at a time (R13, R30). -/

namespace Sys2Proof.Machine

/-- One step. At `DONE` the result is returned to the host (R167). With nothing to fetch the idle block stays as it
is (R196); a word that is no command is refused. -/
def step (s : State) : Host.Outcome State Fault Refusal :=
  match s.seq with
  | .done => .next (returnStatus s)
  | _ =>
    match fetchPacket s with
    | none => .next s
    | some (p, s') =>
      match decode p with
      | .ok i => exec i s'
      | .error e => .refused (.noCommandFrame e)

/-- `s` with the request of a table row's bits as the host's next request, and the block idle, which is when it
takes one (R196). -/
def State.withFetchWord (s : State) (nbits w : Nat) : State :=
  { s with seq := .idle, requests := tableRequest nbits w :: s.requests }

end Sys2Proof.Machine
end

