-- ==== Sys2Proof/Machine/Pseudocode.lean ====
section
/-! DEFINITION. The pseudocode of `SEND_COMMAND` (R126) and `BRINGUP` (R150) as whole operations, loops as loops, for
claims that the machine, which takes one event a step, does what they say. A result of `none` means that a transport
action never returns (R124). `exec` and `step` do not use this file. -/

namespace Sys2Proof.Machine

/-! ### The four actions as calls -/

/-- `XCHG(0xFF)`: a byte, or `none` for `FAIL`. -/
def callXchg (s : State) : Option (Option Byte × State) :=
  match s.replies with
  | [] => none
  | r :: rest =>
    let inp := if r.fail then none else some r.data
    some (inp, { s with replies := rest, trace := s.trace ++ [.xchg Config.idleByte inp] })

/-- `XMIT(FRAME[0..6))`: whether it succeeded. -/
def callXmit (s : State) : Option (Bool × State) :=
  match s.replies with
  | [] => none
  | r :: rest => some (!r.fail, { s with replies := rest, trace := s.trace ++ [.xmit s.frame (!r.fail)] })

/-- `SEL()`. -/
def callSel (s : State) : Option State :=
  match s.replies with
  | [] => none
  | _ :: rest => some { s with cs := .selected, replies := rest, trace := s.trace ++ [.sel] }

/-- `DESEL()`. -/
def callDesel (s : State) : Option State :=
  match s.replies with
  | [] => none
  | _ :: rest => some { s with cs := .deselected, replies := rest, trace := s.trace ++ [.desel] }

/-! ### SEND_COMMAND (R126) -/

/-- `failed: DESEL(); return TransportFailure`. -/
def sessionFailed (s : State) : Option (SessionOutcome × State) :=
  match callDesel s with
  | none => none
  | some s => some (.transportFailure, s)

/-- `for BURST_IDX from idx` on, `left` bytes to go, then `return Response(...)`. -/
def burstLoop (sh : Shape) : Nat → Nat → State → Option (SessionOutcome × State)
  | 0, _, s => some (.response (rspArea s.rsp sh), s)
  | left + 1, idx, s =>
    match callXchg { s with burstIdx := idx } with
    | none => none
    | some (none, s) => sessionFailed s
    | some (some b, s) => burstLoop sh left (idx + 1) { s with rsp := rspWrite s.rsp sh idx b }

/-- `while POLL_CNT < bound(shape)`, `left` attempts to go. -/
def pollLoop (sh : Shape) : Nat → State → Option (SessionOutcome × State)
  | 0, s => some (.timeout, s)
  | left + 1, s =>
    match callXchg { s with pollCnt := s.pollCnt + 1 } with
    | none => none
    | some (none, s) => sessionFailed s
    | some (some b, s) =>
      if b = Config.idleByte then pollLoop sh left s
      else burstLoop sh (shapeLength sh - 1) 1 { s with rsp := rspWrite s.rsp sh 0 b }

/-- Steps 4 to 6. -/
def sessionAnswer (sh : Shape) (s : State) : Option (SessionOutcome × State) :=
  pollLoop sh (pollBound s.params sh) { s with rsp := Rsp.filled, pollCnt := 0 }

/-- Step 3, then the rest. -/
def sessionTail (sh : Shape) (s : State) : Option (SessionOutcome × State) :=
  match callXchg s with
  | none => none
  | some (none, s) => sessionFailed s
  | some (some _, s) =>
    match callDesel s with
    | none => none
    | some s => sessionAnswer sh s

/-- Step 2, then the rest. -/
def sessionFrame (sh : Shape) (s : State) : Option (SessionOutcome × State) :=
  match callXmit s with
  | none => none
  | some (false, s) => sessionFailed s
  | some (true, s) => sessionTail sh s

/-- Step 1 after its `SEL`, then the rest. -/
def sessionSettle (sh : Shape) (s : State) : Option (SessionOutcome × State) :=
  match callXchg s with
  | none => none
  | some (none, s) => sessionFailed s
  | some (some _, s) => sessionFrame sh s

/-- The whole session. -/
def sessionRun (sh : Shape) (s : State) : Option (SessionOutcome × State) :=
  match callXchg s with
  | none => none
  | some (none, s) => sessionFailed s
  | some (some _, s) =>
    match callSel s with
    | none => none
    | some s => sessionSettle sh s

/-- `o <- SEND_COMMAND(sh)` inside an operation. -/
def sendCommandRun (sh : Shape) (s : State) : Option (SessionOutcome × State) :=
  match sessionRun sh { s with shape := sh, outcome := none } with
  | none => none
  | some (o, s) => some (o, { s with outcome := some o })

/-! ### BRINGUP (R150) -/

/-- `return code`. -/
def bringupReturn (code : StatusCode) (s : State) : Option (StatusCode × State) :=
  some (code, { s with statusCode := some code })

/-- A step is left: `EPILOGUE()`, then the step's own verdict, then a failed trailing byte, then the next step. -/
def leaveStep (verdict : Option StatusCode) (next : State → Option (StatusCode × State)) (s : State) :
    Option (StatusCode × State) :=
  match callDesel { s with statusCode := verdict } with
  | none => none
  | some s =>
    match callXchg s with
    | none => none
    | some (e, s) =>
      match verdict, e with
      | some code, _ => bringupReturn code s
      | none, none => bringupReturn .errSendFailed s
      | none, some _ => next s

/-- The rounds of step 4, `left` to go: the verdict, none for success. -/
def roundLoop : Nat → State → Option (Option StatusCode × State)
  | 0, s => some (some .errInit, s)
  | left + 1, s =>
    match sendCommandRun .status (framerBuild 55#8 Config.cmd55Arg { s with round := s.round + 1 }) with
    | none => none
    | some (.transportFailure, s) => some (some .errSendFailed, s)
    | some (.timeout, s) => roundLoop left s
    | some (.response b, s) =>
      if b = [Config.idleStatus] then
        match sendCommandRun .status (framerBuild 41#8 Config.acmd41Arg s) with
        | none => none
        | some (.transportFailure, s) => some (some .errSendFailed, s)
        | some (.timeout, s) => roundLoop left s
        | some (.response b2, s) => if b2 = [Config.readyStatus] then some (none, s) else roundLoop left s
      else roundLoop left s

/-- Step 4, then step 5. -/
def handshakeRun (s : State) : Option (StatusCode × State) :=
  match roundLoop s.params.handshakeRoundsMax { s with round := 0 } with
  | none => none
  | some (verdict, s) => leaveStep verdict (bringupReturn .ok) s

/-- Step 3, then the rest. -/
def ifcheckRun (s : State) : Option (StatusCode × State) :=
  match sendCommandRun .ifcond (framerBuild 8#8 Config.cmd8Arg s) with
  | none => none
  | some (.transportFailure, s) => leaveStep (some .errSendFailed) handshakeRun s
  | some (.timeout, s) => leaveStep (some .errIfcheck) handshakeRun s
  | some (.response b, s) =>
    if b[0]? = some Config.idleStatus ∧ b[3]? = some Config.ifcondVoltage ∧ b[4]? = some Config.ifcondPattern then
      leaveStep none handshakeRun s
    else leaveStep (some .errIfcheck) handshakeRun s

/-- The attempts of step 2, `left` to go: the verdict, none when the reset was accepted. -/
def resetLoop : Nat → State → Option (Option StatusCode × State)
  | 0, s => some (some .errReset, s)
  | left + 1, s =>
    match sendCommandRun .status (framerBuild 0#8 Config.cmd0Arg { s with resetTry := s.resetTry + 1 }) with
    | none => none
    | some (.transportFailure, s) => some (some .errSendFailed, s)
    | some (.timeout, s) => resetLoop left s
    | some (.response b, s) => if resetAccepted s.params b then some (none, s) else resetLoop left s

/-- Step 2, then the rest. -/
def resetRun (s : State) : Option (StatusCode × State) :=
  match callSel s with
  | none => none
  | some s =>
    match resetLoop s.params.resetRetryMax { s with resetTry := 0 } with
    | none => none
    | some (verdict, s) => leaveStep verdict ifcheckRun s

/-- The idle bytes of step 1, `left` to go, then the rest. -/
def preResetLoop : Nat → State → Option (StatusCode × State)
  | 0, s => resetRun s
  | left + 1, s =>
    match callXchg s with
    | none => none
    | some (none, s) => bringupReturn .errSendFailed s
    | some (some _, s) => preResetLoop left s

/-- The whole of `BRINGUP`, from its first `DESEL` on. -/
def bringupRun (s : State) : Option (StatusCode × State) :=
  match callDesel s with
  | none => none
  | some s => preResetLoop s.params.preResetIdleBytes s

end Sys2Proof.Machine
end

