-- ==== Sys2Proof/Safety.lean ====
section
/-! DEFINITION. The terms in which claims about the machine are made: byte-times (R13, R135, R169), the coarse states
of `BRINGUP` (R30, R167), the live area of `RSP` (R25), the invariant every step keeps, and other forms of the CRC-7
that R101 says are the same. -/

namespace Sys2Proof.Machine

/-! ### Runs -/

/-- `n` steps of the machine. -/
abbrev runSteps (n : Nat) (s : State) : Host.Outcome State Fault Refusal := Host.Core.run Sys2Proof.core n s

/-! ### Replies and events -/

/-- The collaborator completes an action well, with a byte in (R87). -/
def okReply (b : Byte) : Reply := { fail := false, data := b }

/-- The event of an idle byte that was answered (R13). -/
def idleByteEvent (b : Byte) : Event := .xchg Config.idleByte (some b)

/-- The six events of a session before its first poll, by the three discarded bytes (R126 to R129). -/
def openingEvents (f : Frame) (a b c : Byte) : List Event :=
  [idleByteEvent a, .sel, idleByteEvent b, .xmit f true, idleByteEvent c, .desel]

/-- What an action at this session position leaves in the trace when it fails (R134). -/
def failEvent (p : SessionPos) (f : Frame) : Event :=
  match p with
  | .sendFrame => .xmit f false
  | _ => .xchg Config.idleByte none

/-- The positions of a session at which an action can fail (R134): every `XCHG` and the `XMIT`. -/
def canFail (p : SessionPos) : Bool :=
  match p with
  | .leadIdle => true
  | .settleIdle => true
  | .sendFrame => true
  | .tailIdle => true
  | .poll => true
  | .burst => true
  | _ => false

/-- The four transport actions (R5). -/
def isAction (i : Instr) : Bool :=
  match i with
  | .sel => true
  | .desel => true
  | .xchg _ => true
  | .xmit _ => true
  | _ => false

/-- The instructions that build a frame: `BUILD_FRAME`, and the command frames, which begin with it (R91, R110). -/
def buildsFrame (i : Instr) : Bool :=
  match i with
  | .buildFrame _ _ => true
  | .cmd0 => true
  | .cmd8 => true
  | .cmd55 => true
  | .acmd41 => true
  | .cmdN _ _ _ _ => true
  | _ => false

/-- The step of `BRINGUP` a session belongs to; none for the host's (R150). -/
def callerStep (c : SessionCaller) : Option BringupStep :=
  match c with
  | .host => none
  | .reset => some .reset
  | .ifcheck => some .ifcheck
  | .roundPrefix => some .handshake
  | .roundInit => some .handshake

/-- What no transport action and no shape code writes: the parameters, `FRAME`, `ARG`, the CRC registers, and the
requests of the host. -/
def buffersKept (s t : State) : Prop :=
  t.params = s.params ∧ t.frame = s.frame ∧ t.arg = s.arg ∧ t.frameBuilt = s.frameBuilt ∧
    t.crc7Reg = s.crc7Reg ∧ t.crc16Reg = s.crc16Reg ∧ t.requests = s.requests

/-- The bounds of the parameters at their documented defaults (R7, R8); the legacy statuses are left open. -/
def defaultBounds (p : Params) : Prop :=
  p.resetRetryMax = 15 ∧ p.handshakeRoundsMax = 10 ∧ p.pollMaxStatus = 20 ∧ p.pollMaxOther = 8 ∧
    p.preResetIdleBytes = 10

/-! ### Byte-times -/

/-- One `XCHG` is one byte-time, one `XMIT` six (R13). -/
def eventBytes (e : Event) : Nat :=
  match e with
  | .sel => 0
  | .desel => 0
  | .xchg _ _ => 1
  | .xmit _ _ => 6

/-- Byte-times of a trace. -/
def byteTimes (l : List Event) : Nat := (l.map eventBytes).sum

/-- The most byte-times from a session position to the session's end (R135). -/
def sessionBytesLeft (p : SessionPos) (s : State) : Nat :=
  let answer := pollBound s.params s.shape + (shapeLength s.shape - 1)
  match p with
  | .leadIdle => 9 + answer
  | .select => 8 + answer
  | .settleIdle => 8 + answer
  | .sendFrame => 7 + answer
  | .tailIdle => 1 + answer
  | .deselect => answer
  | .dispatch => answer
  | .poll => pollBound s.params s.shape - s.pollCnt + 1 + (shapeLength s.shape - 1)
  | .burst => shapeLength s.shape - s.burstIdx
  | .failDeselect => 0

/-- The most byte-times of one session with a one-byte status (R135, R169). -/
def statusSessionBytes (p : Params) : Nat := 9 + p.pollMaxStatus

/-- The most byte-times of `left` handshake rounds and the epilogue (R169). -/
def handshakeBytes (p : Params) (left : Nat) : Nat := left * (2 * statusSessionBytes p) + 1

/-- The most byte-times from the interface check to the end (R169). -/
def ifcheckBytes (p : Params) : Nat := 9 + p.pollMaxOther + 4 + 1 + handshakeBytes p p.handshakeRoundsMax

/-- The most byte-times of `left` reset attempts, the epilogue and the rest (R169). -/
def resetBytes (p : Params) (left : Nat) : Nat := left * statusSessionBytes p + 1 + ifcheckBytes p

/-- The most byte-times after a session, by who called it. -/
def callerBytesLeft (c : SessionCaller) (s : State) : Nat :=
  match c with
  | .host => 0
  | .reset => resetBytes s.params (s.params.resetRetryMax - s.resetTry)
  | .ifcheck => 1 + handshakeBytes s.params s.params.handshakeRoundsMax
  | .roundPrefix =>
    statusSessionBytes s.params + handshakeBytes s.params (s.params.handshakeRoundsMax - s.round)
  | .roundInit => handshakeBytes s.params (s.params.handshakeRoundsMax - s.round)

/-- The most byte-times from a position to the end of the operation in progress. -/
def bytesLeft (s : State) : Nat :=
  match s.seq with
  | .idle => 0
  | .preDeselect => s.params.preResetIdleBytes + resetBytes s.params s.params.resetRetryMax
  | .preIdle sent => s.params.preResetIdleBytes - sent + resetBytes s.params s.params.resetRetryMax
  | .resetSelect => resetBytes s.params s.params.resetRetryMax
  | .resetAttempt => resetBytes s.params (s.params.resetRetryMax - s.resetTry)
  | .ifcheckCommand => ifcheckBytes s.params
  | .roundPrefix => handshakeBytes s.params (s.params.handshakeRoundsMax - s.round)
  | .roundInit => statusSessionBytes s.params + handshakeBytes s.params (s.params.handshakeRoundsMax - s.round)
  | .session c p => sessionBytesLeft p s + callerBytesLeft c s
  | .epilogueDeselect .reset => 1 + ifcheckBytes s.params
  | .epilogueIdle .reset => 1 + ifcheckBytes s.params
  | .epilogueDeselect .ifcheck => 1 + handshakeBytes s.params s.params.handshakeRoundsMax
  | .epilogueIdle .ifcheck => 1 + handshakeBytes s.params s.params.handshakeRoundsMax
  | .epilogueDeselect .handshake => 1
  | .epilogueIdle .handshake => 1
  | .done => 0

/-! ### Steps to the end -/

/-- The most steps from a session position to the session's end, the failure exit counted. -/
def sessionStepsLeft (p : SessionPos) (s : State) : Nat :=
  let answer := pollBound s.params s.shape + (shapeLength s.shape - 1) + 2
  match p with
  | .leadIdle => 6 + answer
  | .select => 5 + answer
  | .settleIdle => 4 + answer
  | .sendFrame => 3 + answer
  | .tailIdle => 2 + answer
  | .deselect => 1 + answer
  | .dispatch => answer
  | .poll => pollBound s.params s.shape - s.pollCnt + (shapeLength s.shape - 1) + 2
  | .burst => shapeLength s.shape - s.burstIdx + 1
  | .failDeselect => 1

/-- The most steps of one command with a one-byte status: the command, the session, its failure exit. -/
def statusCommandSteps (p : Params) : Nat := 9 + p.pollMaxStatus

/-- The most steps of `left` handshake rounds, the epilogue and the return. -/
def handshakeSteps (p : Params) (left : Nat) : Nat := left * (2 * statusCommandSteps p) + 3

/-- The most steps from the interface check to the end. -/
def ifcheckSteps (p : Params) : Nat := 9 + p.pollMaxOther + 4 + 2 + handshakeSteps p p.handshakeRoundsMax

/-- The most steps of `left` reset attempts, the epilogue and the rest. -/
def resetSteps (p : Params) (left : Nat) : Nat := left * statusCommandSteps p + 2 + ifcheckSteps p

/-- The most steps after a session, by who called it. -/
def callerStepsLeft (c : SessionCaller) (s : State) : Nat :=
  match c with
  | .host => 0
  | .reset => resetSteps s.params (s.params.resetRetryMax - s.resetTry)
  | .ifcheck => 2 + handshakeSteps s.params s.params.handshakeRoundsMax
  | .roundPrefix =>
    statusCommandSteps s.params + handshakeSteps s.params (s.params.handshakeRoundsMax - s.round)
  | .roundInit => handshakeSteps s.params (s.params.handshakeRoundsMax - s.round)

/-- The most steps from a position to the end of the operation in progress, with a collaborator that always
returns (R169, R222). -/
def stepsLeft (s : State) : Nat :=
  match s.seq with
  | .idle => 0
  | .preDeselect => 1 + s.params.preResetIdleBytes + 1 + resetSteps s.params s.params.resetRetryMax
  | .preIdle sent => s.params.preResetIdleBytes - sent + 1 + resetSteps s.params s.params.resetRetryMax
  | .resetSelect => 1 + resetSteps s.params s.params.resetRetryMax
  | .resetAttempt => resetSteps s.params (s.params.resetRetryMax - s.resetTry)
  | .ifcheckCommand => ifcheckSteps s.params
  | .roundPrefix => handshakeSteps s.params (s.params.handshakeRoundsMax - s.round)
  | .roundInit => statusCommandSteps s.params + handshakeSteps s.params (s.params.handshakeRoundsMax - s.round)
  | .session c p => sessionStepsLeft p s + callerStepsLeft c s
  | .epilogueDeselect .reset => 2 + ifcheckSteps s.params
  | .epilogueIdle .reset => 1 + ifcheckSteps s.params
  | .epilogueDeselect .ifcheck => 2 + handshakeSteps s.params s.params.handshakeRoundsMax
  | .epilogueIdle .ifcheck => 1 + handshakeSteps s.params s.params.handshakeRoundsMax
  | .epilogueDeselect .handshake => 3
  | .epilogueIdle .handshake => 2
  | .done => 1

/-! ### The coarse states -/

/-- The coarse values of `SEQ` (R30), with one more for a session the host asked for. -/
inductive Phase where
  | idle | hostSession | preReset | reset | ifcheck | handshake | done
deriving DecidableEq, Repr

/-- The coarse value of a position (R30, R167). -/
def phaseOf (p : SeqPos) : Phase :=
  match p with
  | .idle => .idle
  | .preDeselect => .preReset
  | .preIdle _ => .preReset
  | .resetSelect => .reset
  | .resetAttempt => .reset
  | .ifcheckCommand => .ifcheck
  | .roundPrefix => .handshake
  | .roundInit => .handshake
  | .session .host _ => .hostSession
  | .session .reset _ => .reset
  | .session .ifcheck _ => .ifcheck
  | .session .roundPrefix _ => .handshake
  | .session .roundInit _ => .handshake
  | .epilogueDeselect .reset => .reset
  | .epilogueIdle .reset => .reset
  | .epilogueDeselect .ifcheck => .ifcheck
  | .epilogueIdle .ifcheck => .ifcheck
  | .epilogueDeselect .handshake => .handshake
  | .epilogueIdle .handshake => .handshake
  | .done => .done

/-- The transitions of the coarse state (R167), a session of the host's aside. -/
def phaseNext (p : Phase) : List Phase :=
  match p with
  | .idle => [.idle, .hostSession, .preReset]
  | .hostSession => [.hostSession, .idle]
  | .preReset => [.preReset, .reset, .done]
  | .reset => [.reset, .ifcheck, .done]
  | .ifcheck => [.ifcheck, .handshake, .done]
  | .handshake => [.handshake, .done]
  | .done => [.idle]

/-- The codes with which `DONE` is reached from a coarse state (R167, R181). -/
def phaseCodes (p : Phase) : List StatusCode :=
  match p with
  | .preReset => [.errSendFailed]
  | .reset => [.errSendFailed, .errReset]
  | .ifcheck => [.errSendFailed, .errIfcheck]
  | .handshake => [.ok, .errSendFailed, .errInit]
  | _ => []

/-- The codes a step of `BRINGUP` may be left with as a verdict of its own (R155, R158, R162, R165). -/
def stepVerdicts (st : BringupStep) : List (Option StatusCode) :=
  match st with
  | .reset => [none, some .errSendFailed, some .errReset]
  | .ifcheck => [none, some .errSendFailed, some .errIfcheck]
  | .handshake => [none, some .errSendFailed, some .errInit]

/-! ### The response buffer -/

/-- Every area but that of the shape holds `0xFF` in every byte (R25). -/
def othersFilled (sh : Shape) (r : Rsp) : Prop :=
  ∀ sh', sh' ≠ sh → rspArea r sh' = List.replicate (shapeLength sh') Config.idleByte

/-- What R25 says of `RSP` after an outcome: the response is the live area, it does not begin with `0xFF` (R81),
and the rest is `0xFF`; after a timeout all is. -/
def liveArea (s : State) : Prop :=
  match s.outcome with
  | some (.response bytes) =>
    bytes = rspArea s.rsp s.shape ∧ bytes.head? ≠ some Config.idleByte ∧ othersFilled s.shape s.rsp
  | some .timeout => s.rsp = Rsp.filled
  | _ => True

/-! ### The invariant -/

/-- What holds of a session position: chip-select (R127 to R129, R135), the buffer (R130, R131) and the counters
(R33, R34). -/
def sessionPosInv (p : SessionPos) (s : State) : Prop :=
  match p with
  | .leadIdle => True
  | .select => True
  | .settleIdle => s.cs = .selected
  | .sendFrame => s.cs = .selected
  | .tailIdle => s.cs = .selected
  | .deselect => s.cs = .selected
  | .dispatch => s.cs = .deselected ∧ s.rsp = Rsp.filled
  | .poll =>
    s.cs = .deselected ∧ s.rsp = Rsp.filled ∧ 1 ≤ s.pollCnt ∧ s.pollCnt ≤ pollBound s.params s.shape
  | .burst =>
    s.cs = .deselected ∧ 1 ≤ s.pollCnt ∧ s.pollCnt ≤ pollBound s.params s.shape ∧ 1 ≤ s.burstIdx ∧
      s.burstIdx < shapeLength s.shape ∧ (rspArea s.rsp s.shape).head? ≠ some Config.idleByte ∧
      othersFilled s.shape s.rsp
  | .failDeselect => True

/-- What holds of a session by who called it: the frame `BRINGUP` built for it (R22, R74), the shape it chose and
the counters of its loop (R31, R32, R144, R148). A session of the host has a frame that was built (R22, R201). -/
def sessionCallerInv (c : SessionCaller) (s : State) : Prop :=
  match c with
  | .host => s.frameBuilt = true
  | .reset => s.frameBuilt = true ∧ s.frame = buildFrame 0#8 Config.cmd0Arg ∧ s.shape = .status ∧ 1 ≤ s.resetTry
  | .ifcheck => s.frameBuilt = true ∧ s.frame = buildFrame 8#8 Config.cmd8Arg ∧ s.shape = .ifcond
  | .roundPrefix =>
    s.frameBuilt = true ∧ s.frame = buildFrame 55#8 Config.cmd55Arg ∧ s.shape = .status ∧ 1 ≤ s.round
  | .roundInit =>
    s.frameBuilt = true ∧ s.frame = buildFrame 41#8 Config.acmd41Arg ∧ s.shape = .status ∧ 1 ≤ s.round

/-- The last session was an initialization command answered `READY_STATUS` (R161, R212). -/
def readySeen (s : State) : Prop :=
  s.frameBuilt = true ∧ s.frame = buildFrame 41#8 Config.acmd41Arg ∧ s.shape = .status ∧
    s.outcome = some (.response [Config.readyStatus])

/-- What holds of a position: never selected at rest (R27, R168), the loops within their bounds (R31, R32, R172),
a verdict only in an epilogue or at the end (R36), success only after a ready status (R161, R163). -/
def seqInv (s : State) : Prop :=
  match s.seq with
  | .idle => s.cs ≠ .selected ∧ (s.result = some (.status .ok) → readySeen s ∧ s.cs = .deselected)
  | .preDeselect => s.statusCode = none
  | .preIdle sent => s.cs = .deselected ∧ s.statusCode = none ∧ sent < s.params.preResetIdleBytes
  | .resetSelect => s.cs = .deselected ∧ s.statusCode = none
  | .resetAttempt => s.statusCode = none ∧ s.resetTry < s.params.resetRetryMax
  | .ifcheckCommand => s.cs = .deselected ∧ s.statusCode = none
  | .roundPrefix => s.cs = .deselected ∧ s.statusCode = none ∧ s.round < s.params.handshakeRoundsMax
  | .roundInit => s.cs = .deselected ∧ s.statusCode = none ∧ 1 ≤ s.round
  | .session c p =>
    s.statusCode = none ∧ s.outcome = none ∧ sessionCallerInv c s ∧ sessionPosInv p s
  | .epilogueDeselect st =>
    s.statusCode ∈ stepVerdicts st ∧ (st = .handshake → s.statusCode = none → readySeen s)
  | .epilogueIdle st =>
    s.cs = .deselected ∧ s.statusCode ∈ stepVerdicts st ∧ (st = .handshake → s.statusCode = none → readySeen s)
  | .done => s.cs = .deselected ∧ s.statusCode ≠ none ∧ (s.statusCode = some .ok → readySeen s)

/-- `FRAME` and `ARG` once a frame has been built: `ARG` mirrors `FRAME[1..5)` (R23) and the stop bit is set (R22). -/
def frameInv (s : State) : Prop :=
  s.frameBuilt = true → s.arg = frameArg s.frame ∧ s.frame.b5[0] = true

/-- The invariant every step keeps. -/
def State.Inv (s : State) : Prop :=
  frameInv s ∧ liveArea s ∧ s.resetTry ≤ s.params.resetRetryMax ∧ s.round ≤ s.params.handshakeRoundsMax ∧ seqInv s

/-! ### Other forms of CRC-7 -/

/-- One message bit in the 8-bit register of R101: feedback from bit 6 and the message bit, constant `0x89`. -/
def crc7WideBit (reg : BitVec 8) (m : Bool) : BitVec 8 :=
  if reg[6] ^^ m then (reg <<< 1) ^^^ 0x89#8 else reg <<< 1

/-- CRC-7 in the 8-bit register, masked with `0x7F` at the end (R101). -/
def crc7Wide (bytes : List Byte) : BitVec 8 :=
  bytes.foldl (fun reg b => (bitsMsbFirst b).foldl crc7WideBit reg) 0#8 &&& 0x7F#8

end Sys2Proof.Machine
end

