-- ==== Sys2Proof/Certificates/Slice0/Obligations.lean ====
section
/-! DEFINITION. The statements for the provers. Each docstring names the rule or the section of the spec a statement
formalises, and where a clause is the model's own choice, the log entry. -/

open Sys2Proof Sys2Proof.Machine

/-! ### Encoding -/

/-- Decoding the packet of an instruction gives the instruction back, for every instruction and whatever its
operands (R70, R74, R84 to R86, R91). -/
def Obligations.DecodeEncodeGivesInstructionBack : Prop := ∀ i : Instr, decode (encode i) = .ok i

/-- Encoding what was decoded gives the word back: all 48 bits of a frame and the shape beside it, the three bits of
a shape or operation code, the two bits of an action code. Lines an instruction does not use are not part of its
word. -/
def Obligations.EncodeKeepsEveryDecodedWord : Prop :=
  (∀ w sh i, decode (.frame w sh) = .ok i → encode i = .frame w sh) ∧
  (∀ c i, decode (.shape c) = .ok i → encode i = .shape c) ∧
  (∀ c o f i, decode (.act c o f) = .ok i → ∃ o' f', encode i = .act c o' f') ∧
  (∀ l i, decode (.host l) = .ok i → ∃ l', encode i = .host l' ∧ l'.op = l.op)

/-- A 48-bit word decodes exactly when bits 47:46 are `01` and bit 0 is `1` (R70) and it has a shape beside it or is
one of the four named commands (R74, R91); otherwise what is missing is named. That a word without a shape is no
other command is the model's choice (log entry 4). -/
def Obligations.FrameWordNeedsItsMarkers : Prop :=
  ∀ (w : BitVec 48) (sh : Option (BitVec 3)),
    let named : Prop :=
      w = 0x400000000095#48 ∨ w = 0x48000001AA87#48 ∨ w = 0x770000000065#48 ∨ w = 0x694000000077#48
    ((∃ i, decode (.frame w sh) = .ok i) ↔
      w[47] = false ∧ w[46] = true ∧ w[0] = true ∧ (sh ≠ none ∨ named)) ∧
    (decode (.frame w sh) = .error .startMarker ↔ ¬(w[47] = false ∧ w[46] = true)) ∧
    (decode (.frame w sh) = .error .stopMarker ↔ w[47] = false ∧ w[46] = true ∧ w[0] = false) ∧
    (decode (.frame w sh) = .error .noShape ↔
      w[47] = false ∧ w[46] = true ∧ w[0] = true ∧ sh = none ∧ ¬named)

/-- Words written out from the tables of `30_encoding.md` decode to their rows, R91's `CMD 41, 0x40000000, OCR`
among them, whose word is that of `ACMD41`. That `decodeTableWord` reads a short word without its port as an `OP`
code is the model's choice (log entry 3). -/
def Obligations.WrittenOutWordsDecode : Prop :=
  decode (.frame 0x400000000095#48 none) = .ok .cmd0 ∧
  decode (.frame 0x48000001AA87#48 none) = .ok .cmd8 ∧
  decode (.frame 0x7A00000000FD#48 (some 3#3)) = .ok (.cmdN 58#6 0#32 0x7E#7 3#3) ∧
  decode (.frame 0x694000000077#48 (some 3#3)) = .ok (.cmdN 41#6 0x40000000#32 0x3B#7 3#3) ∧
  decode (.shape 0b100#3) = .ok .shapeIfcond ∧
  decode (.act 0b10#2 0xFF#8 zeroFrame) = .ok (.xchg 0xFF#8) ∧
  decodeTableWord 8 0b101 = some .bringup ∧ decodeTableWord 48 0x694000000077 = some .acmd41

/-- Reserved operation codes decode to their own rows, and those are refused in R84's words, "no event, no state
change, no result": in every state they complete at once and the state is what it was. -/
def Obligations.ReservedOperationCodesAreRefused : Prop :=
  (∀ l : HostLines, l.op = 0b000#3 → decode (.host l) = .ok .opReserved000) ∧
  (∀ l : HostLines, l.op = 0b110#3 → decode (.host l) = .ok .opReserved110) ∧
  (∀ l : HostLines, l.op = 0b111#3 → decode (.host l) = .ok .opReserved111) ∧
  ∀ s : State,
    exec .opReserved000 s = .next s ∧ exec .opReserved110 s = .next s ∧ exec .opReserved111 s = .next s

/-- R85: the five shape codes and the three reserved ones; a `SEND_COMMAND` with a reserved shape is refused like a
reserved `OP`, that is with "no event, no state change, no result" (R84), on the idle block and on a busy one, where
it is not accepted anyway (R196). That the rows of the reserved shape codes by themselves have no effect either is
read from this (log entry 11). -/
def Obligations.ShapeCodesSelectAndReservedOnesAreRefused : Prop :=
  decode (.shape 0b000#3) = .ok .shapeStatus ∧ decode (.shape 0b001#3) = .ok .shapeBusy ∧
  decode (.shape 0b010#3) = .ok .shapeStatus2 ∧ decode (.shape 0b011#3) = .ok .shapeOcr ∧
  decode (.shape 0b100#3) = .ok .shapeIfcond ∧ decode (.shape 0b101#3) = .ok .shapeReserved101 ∧
  decode (.shape 0b110#3) = .ok .shapeReserved110 ∧ decode (.shape 0b111#3) = .ok .shapeReserved111 ∧
  (∀ s : State, exec .shapeReserved101 s = .next s ∧ exec .shapeReserved110 s = .next s ∧
    exec .shapeReserved111 s = .next s) ∧
  ∀ (c : BitVec 3) (s : State), 5 ≤ c.toNat → exec (.sendCommand c) s = .next s

/-! ### CRC engine -/

/-- R103, all six items (item 1, that `CRC7` is a function of its input, is the form of the definition; the spec
marks items 4 to 6 as its own derivations from R100). -/
def Obligations.Crc7HasItsSixProperties : Prop :=
  crc7 [] = 0#7 ∧
  crc7 [0x40#8, 0x00#8, 0x00#8, 0x00#8, 0x00#8] = 0x4A#7 ∧
  crc7 [0x48#8, 0x00#8, 0x00#8, 0x01#8, 0xAA#8] = 0x43#7 ∧
  (∀ x y : List Byte, x.length = y.length →
    crc7 (List.zipWith (fun a b => a ^^^ b) x y) = crc7 x ^^^ crc7 y) ∧
  (∀ x y : List Byte, crc7 (x ++ y) = crc7From (crc7 x) y) ∧
  (∀ (index : BitVec 8) (arg : Arg32), index ≠ 0#8 → index ≠ 8#8 → index ≠ 55#8 →
    crc7 (frameBytes (buildFrame index arg)) = 0x09#7)

/-- R101: the 8-bit register with constant `0x89`, masked at the end, gives the same result for every input. -/
def Obligations.WideRegisterCrc7IsTheSame : Prop :=
  ∀ bytes : List Byte, crc7Wide bytes = (crc7 bytes).zeroExtend 8

/-- R106, every property: value on the empty input, linearity, streaming, residue with the high byte first (the spec
marks the last as its own derivation from R104). -/
def Obligations.Crc16HasItsProperties : Prop :=
  crc16 [] = 0#16 ∧
  (∀ x y : List Byte, x.length = y.length →
    crc16 (List.zipWith (fun a b => a ^^^ b) x y) = crc16 x ^^^ crc16 y) ∧
  (∀ x y : List Byte, crc16 (x ++ y) = crc16From (crc16 x) y) ∧
  (∀ x : List Byte, crc16 (x ++ [(crc16 x).extractLsb' 8 8, (crc16 x).extractLsb' 0 8]) = 0#16)

/-- Corner cases of R100 and R104: leading zero bytes change nothing. -/
def Obligations.LeadingZeroBytesChangeNoCrc : Prop :=
  ∀ (n : Nat) (x : List Byte),
    crc7 (List.replicate n 0x00#8 ++ x) = crc7 x ∧ crc16 (List.replicate n 0x00#8 ++ x) = crc16 x

/-- `CRC7` and `CRC16` on the idle block answer a next state with the CRC as result; besides the result only the
transient state is written, which every operation re-initialises (R41, R100, R104; the values it has where no rule
gives one are the model's, log entry 6). -/
def Obligations.CrcOperationsReturnTheCrc : Prop :=
  ∀ (bytes : List Byte) (s : State), s.seq = .idle →
    exec (.crc7 bytes) s = .next
      { s with
        crc7Reg := crc7 bytes, crc16Reg := 0#16, resetTry := 0, round := 0, pollCnt := 0, burstIdx := 0,
        outcome := none, statusCode := none, result := some (.crc7 (crc7 bytes)) } ∧
    exec (.crc16 bytes) s = .next
      { s with
        crc7Reg := 0#7, crc16Reg := crc16 bytes, resetTry := 0, round := 0, pollCnt := 0, burstIdx := 0,
        outcome := none, statusCode := none, result := some (.crc16 (crc16 bytes)) }

/-! ### Command framer -/

/-- R110: `BUILD_FRAME` on the idle block, for every index and argument, byte by byte, with its worked example and
its corner cases, and `OP = 0b011` decodes to it; `RSP`, `CS` and the trace are untouched. The transient state is
re-initialised (R41; the values are the model's, log entry 6). That an index above 63 is executed by R113 and not
refused is the model's choice (log entry 7). -/
def Obligations.BuildFrameWritesFrameAndArg : Prop :=
  (∀ (index : BitVec 8) (arg : Arg32) (s : State), s.seq = .idle →
    let f : Frame :=
      { b0 := 0x40#8 ||| index
        b1 := arg.extractLsb' 24 8
        b2 := arg.extractLsb' 16 8
        b3 := arg.extractLsb' 8 8
        b4 := arg.extractLsb' 0 8
        b5 :=
          if index = 0#8 then 0x95#8
          else if index = 8#8 then 0x87#8
          else if index = 55#8 then 0x65#8
          else ((crc7 [0x40#8 ||| index, arg.extractLsb' 24 8, arg.extractLsb' 16 8, arg.extractLsb' 8 8,
            arg.extractLsb' 0 8]).zeroExtend 8 <<< 1) ||| 0x01#8 }
    exec (.buildFrame index arg) s = .next
      { s with
        frame := f
        arg := { b0 := arg.extractLsb' 24 8, b1 := arg.extractLsb' 16 8, b2 := arg.extractLsb' 8 8,
                 b3 := arg.extractLsb' 0 8 }
        frameBuilt := true
        crc7Reg :=
          if index = 0#8 ∨ index = 8#8 ∨ index = 55#8 then 0#7
          else crc7 [f.b0, f.b1, f.b2, f.b3, f.b4]
        crc16Reg := 0#16, resetTry := 0, round := 0, pollCnt := 0, burstIdx := 0,
        outcome := none, statusCode := none, result := some (.frame f) }) ∧
  (∀ l : HostLines, l.op = 0b011#3 → decode (.host l) = .ok (.buildFrame l.index l.arg)) ∧
  frameBytes (buildFrame 8#8 0x000001AA#32) = [0x48#8, 0x00#8, 0x00#8, 0x01#8, 0xAA#8, 0x87#8] ∧
  frameBytes (buildFrame 63#8 0xFFFFFFFF#32) = [0x7F#8, 0xFF#8, 0xFF#8, 0xFF#8, 0xFF#8, 0x19#8] ∧
  frameBytes (buildFrame 0#8 0xFFFFFFFF#32) = [0x40#8, 0xFF#8, 0xFF#8, 0xFF#8, 0xFF#8, 0x95#8]

/-- R111: for any index 0 to 63 and any argument the markers stand and bytes 1 to 4 are the argument, high byte
first; the low six bits of byte 0 are the index. -/
def Obligations.FrameMeetsItsInvariants : Prop :=
  ∀ (index : BitVec 8) (arg : Arg32), index.toNat < 64 →
    (frameBytes (buildFrame index arg)).length = 6 ∧
    (buildFrame index arg).b0.extractLsb' 6 2 = 0b01#2 ∧
    (buildFrame index arg).b0.extractLsb' 0 6 = index.extractLsb' 0 6 ∧
    (buildFrame index arg).b5[0] = true ∧
    (buildFrame index arg).b1 ++ (buildFrame index arg).b2 ++ (buildFrame index arg).b3 ++
      (buildFrame index arg).b4 = arg

/-- R76: the literal is selected by the index alone, whatever the argument, and with the protocol-fixed arguments
equals what the CRC engine computes. -/
def Obligations.FixedCrcLiteralIsSelectedByIndexAlone : Prop :=
  (∀ arg : Arg32, (buildFrame 0#8 arg).b5 = 0x95#8 ∧ (buildFrame 8#8 arg).b5 = 0x87#8 ∧
    (buildFrame 55#8 arg).b5 = 0x65#8) ∧
  packCrc (crc7 (frameHead 0#8 0x00000000#32)) = 0x95#8 ∧
  packCrc (crc7 (frameHead 8#8 0x000001AA#32)) = 0x87#8 ∧
  packCrc (crc7 (frameHead 55#8 0x00000000#32)) = 0x65#8

/-- R74, R91, R114 to R117: on the idle block each of the four commands builds its six bytes and begins its session
with its shape. The transient state is re-initialised (R41, log entry 6). -/
def Obligations.FixedCommandsBuildTheirFrameAndStart : Prop :=
  ∀ s : State, s.seq = .idle →
    let started (f : Frame) (sh : Shape) : State :=
      { s with
        frame := f, arg := { b0 := f.b1, b1 := f.b2, b2 := f.b3, b3 := f.b4 }, frameBuilt := true, shape := sh,
        seq := .session .host .leadIdle, crc7Reg := 0#7, crc16Reg := 0#16, resetTry := 0, round := 0,
        pollCnt := 0, burstIdx := 0, outcome := none, statusCode := none, result := none }
    exec .cmd0 s = .next (started
      { b0 := 0x40#8, b1 := 0x00#8, b2 := 0x00#8, b3 := 0x00#8, b4 := 0x00#8, b5 := 0x95#8 } .status) ∧
    exec .cmd8 s = .next (started
      { b0 := 0x48#8, b1 := 0x00#8, b2 := 0x00#8, b3 := 0x01#8, b4 := 0xAA#8, b5 := 0x87#8 } .ifcond) ∧
    exec .cmd55 s = .next (started
      { b0 := 0x77#8, b1 := 0x00#8, b2 := 0x00#8, b3 := 0x00#8, b4 := 0x00#8, b5 := 0x65#8 } .status) ∧
    exec .acmd41 s = .next (started
      { b0 := 0x69#8, b1 := 0x40#8, b2 := 0x00#8, b3 := 0x00#8, b4 := 0x00#8, b5 := 0x77#8 } .status)

/-- R91, R118: on the idle block `CMD n, arg, shape` does what `BUILD_FRAME n, arg` and then `SEND_COMMAND shape`
do, for every shape code, so that with a reserved one the frame is built and the second request is refused; with one
of the five shapes it builds the frame of its index and argument and begins its session; and `CMD0`, `CMD8`, `CMD55`
and `ACMD41` are the `CMD` forms of R91's table. When the word's CRC bits are right the frame is the word; the CRC
byte is the framer's even when they are not, and the pair is one instruction (log entry 4). -/
def Obligations.CmdNBuildsItsFrameAndStarts : Prop :=
  (∀ (n : BitVec 6) (arg : Arg32) (g : Crc7Value) (code : BitVec 3) (s : State), s.seq = .idle →
    ∃ u, exec (.buildFrame (n.zeroExtend 8) arg) s = .next u ∧ u.frame = buildFrame (n.zeroExtend 8) arg ∧
      exec (.cmdN n arg g code) s = exec (.sendCommand code) u ∧
      (shapeOfCode code = none → exec (.cmdN n arg g code) s = .next u)) ∧
  (∀ (g : Crc7Value) (s : State),
    exec .cmd0 s = exec (.cmdN 0#6 0x00000000#32 g 0b000#3) s ∧
    exec .cmd8 s = exec (.cmdN 8#6 0x000001AA#32 g 0b100#3) s ∧
    exec .cmd55 s = exec (.cmdN 55#6 0x00000000#32 g 0b000#3) s ∧
    exec .acmd41 s = exec (.cmdN 41#6 0x40000000#32 g 0b000#3) s) ∧
  ∀ (n : BitVec 6) (arg : Arg32) (g : Crc7Value) (code : BitVec 3) (sh : Shape) (s : State),
    s.seq = .idle → shapeOfCode code = some sh →
    ∃ t, exec (.cmdN n arg g code) s = .next t ∧ t.frame = buildFrame (n.zeroExtend 8) arg ∧
      t.arg = frameArg t.frame ∧ t.frameBuilt = true ∧ t.shape = sh ∧ t.seq = .session .host .leadIdle ∧
      t.outcome = none ∧ t.result = none ∧ t.params = s.params ∧ t.rsp = s.rsp ∧ t.cs = s.cs ∧
      t.requests = s.requests ∧ t.replies = s.replies ∧ t.trace = s.trace ∧
      (crcBitsMatch (.cmdN n arg g code) = true → frameWord t.frame = commandWord n arg g)

/-- R150, R153, R157, R159, R161: at the four places where `BRINGUP` sends a command the frame is built, the counter
of the loop counts, and the session begins; nothing else changes. -/
def Obligations.CommandsOfBringupCountAndStart : Prop :=
  ∀ s : State,
    (s.seq = .resetAttempt → exec .cmd0 s = .next
      { s with
        resetTry := s.resetTry + 1, frame := buildFrame 0#8 0x00000000#32,
        arg := frameArg (buildFrame 0#8 0x00000000#32), frameBuilt := true, shape := .status, outcome := none,
        seq := .session .reset .leadIdle }) ∧
    (s.seq = .ifcheckCommand → exec .cmd8 s = .next
      { s with
        frame := buildFrame 8#8 0x000001AA#32, arg := frameArg (buildFrame 8#8 0x000001AA#32), frameBuilt := true,
        shape := .ifcond, outcome := none, seq := .session .ifcheck .leadIdle }) ∧
    (s.seq = .roundPrefix → exec .cmd55 s = .next
      { s with
        round := s.round + 1, frame := buildFrame 55#8 0x00000000#32,
        arg := frameArg (buildFrame 55#8 0x00000000#32), frameBuilt := true, shape := .status, outcome := none,
        seq := .session .roundPrefix .leadIdle }) ∧
    (s.seq = .roundInit → exec .acmd41 s = .next
      { s with
        frame := buildFrame 41#8 0x40000000#32, arg := frameArg (buildFrame 41#8 0x40000000#32), frameBuilt := true,
        crc7Reg := 0x3B#7, shape := .status, outcome := none, seq := .session .roundInit .leadIdle })

/-! ### Transport actions -/

/-- R120: `SEL`, however the collaborator returns, sets `CS`, is recorded, and writes no buffer. -/
def Obligations.SelSetsChipSelect : Prop :=
  ∀ (s : State) (r : Reply) (rest : List Reply), s.replies = r :: rest →
    ∃ t, exec .sel s = .next t ∧ t.cs = .selected ∧ t.trace = s.trace ++ [.sel] ∧ t.replies = rest ∧
      buffersKept s t ∧ t.rsp = s.rsp ∧ t.shape = s.shape ∧ t.round = s.round ∧ t.pollCnt = s.pollCnt ∧
      t.burstIdx = s.burstIdx ∧ t.outcome = s.outcome ∧ t.result = s.result ∧
      (s.seq ≠ .resetSelect → t.resetTry = s.resetTry ∧ t.statusCode = s.statusCode)

/-- R121: `DESEL`, however the collaborator returns, clears `CS`, is recorded, and writes no buffer; only the
`DESEL` of session step 3 is followed by `RSP_FILL` (R130). -/
def Obligations.DeselClearsChipSelect : Prop :=
  ∀ (s : State) (r : Reply) (rest : List Reply), s.replies = r :: rest →
    ∃ t, exec .desel s = .next t ∧ t.cs = .deselected ∧ t.trace = s.trace ++ [.desel] ∧ t.replies = rest ∧
      buffersKept s t ∧ t.shape = s.shape ∧ t.resetTry = s.resetTry ∧ t.round = s.round ∧
      t.pollCnt = s.pollCnt ∧ t.burstIdx = s.burstIdx ∧
      ((∀ c, s.seq ≠ .session c .deselect) → t.rsp = s.rsp) ∧
      ((∃ c, s.seq = .session c .deselect) → t.rsp = Rsp.filled) ∧
      ((∀ c, s.seq ≠ .session c .failDeselect) →
        t.outcome = s.outcome ∧ t.result = s.result ∧ t.statusCode = s.statusCode)

/-- R122: `XCHG` records the byte out and the byte in or `FAIL`; `CS` does not move, and of the buffers only `RSP`
may change, and only where a session polls or reads a burst (R26, R54). -/
def Obligations.XchgMovesOneByte : Prop :=
  ∀ (out : Byte) (s : State) (r : Reply) (rest : List Reply), s.replies = r :: rest →
    ∃ t, exec (.xchg out) s = .next t ∧
      t.trace = s.trace ++ [.xchg out (if r.fail = true then none else some r.data)] ∧ t.replies = rest ∧
      t.cs = s.cs ∧ buffersKept s t ∧ t.shape = s.shape ∧ t.resetTry = s.resetTry ∧
      ((∀ c, s.seq ≠ .session c .poll ∧ s.seq ≠ .session c .burst) →
        t.rsp = s.rsp ∧ t.pollCnt = s.pollCnt ∧ t.burstIdx = s.burstIdx ∧ t.outcome = s.outcome ∧
          t.result = s.result) ∧
      (r.fail = true → t.rsp = s.rsp)

/-- R123: `XMIT` records its six bytes and whether it succeeded; nothing but the sequencer position moves, and that
where a session sends its frame. That `SEQ` stays at any other position is the model's choice (log entry 8). -/
def Obligations.XmitSendsSixBytes : Prop :=
  ∀ (f : Frame) (s : State) (r : Reply) (rest : List Reply), s.replies = r :: rest →
    ∃ t, exec (.xmit f) s = .next t ∧
      t = { s with seq := t.seq, replies := rest, trace := s.trace ++ [.xmit f (!r.fail)] } ∧
      (∀ c, s.seq = .session c .sendFrame →
        t.seq = .session c (if r.fail = true then .failDeselect else .tailIdle)) ∧
      ((∀ c, s.seq ≠ .session c .sendFrame) → t.seq = s.seq)

/-- R124: while an action is outstanding nothing moves; a step of a block that waits for its action changes nothing.
That a step then answers the same state is the model's form of this (log entry 19), and so are actions at positions
that do not issue them (log entry 8). -/
def Obligations.OutstandingActionWaits : Prop :=
  ∀ s : State, s.replies = [] →
    (∀ i, isAction i = true → exec i s = .next s) ∧
    (∀ i, issuedInstr s = some i → isAction i = true → step s = .next s)

/-! ### SEND_COMMAND -/

/-- R126: on the idle block, with one of the five shapes and a frame built since reset, a session begins for the
frame as it stands; the transient state is re-initialised (R41, log entry 6). When no `BUILD_FRAME` has run since
reset the request is refused, for every shape and after a reset from any state (R22, R201), and so it is with a
reserved shape (R85): in R84's words "no event, no state change, no result". -/
def Obligations.SendCommandStartsItsSessionOrIsRefused : Prop :=
  (∀ (code : BitVec 3) (s : State), s.seq = .idle →
    (∀ sh, shapeOfCode code = some sh → s.frameBuilt = true →
      exec (.sendCommand code) s = .next
        { s with
          shape := sh, seq := .session .host .leadIdle, crc7Reg := 0#7, crc16Reg := 0#16, resetTry := 0, round := 0,
          pollCnt := 0, burstIdx := 0, outcome := none, statusCode := none, result := none }) ∧
    (shapeOfCode code = none → exec (.sendCommand code) s = .next s)) ∧
  (∀ (code : BitVec 3) (s : State), s.frameBuilt = false → exec (.sendCommand code) s = .next s) ∧
  (∀ code : BitVec 3, exec (.sendCommand code) State.reset = .next State.reset) ∧
  ∀ (code : BitVec 3) (f : Frame) (a : ArgBytes) (s : State),
    exec (.sendCommand code) (blockReset f a s) = .next (blockReset f a s)

/-- R127 to R130, for every caller: six actions that do not fail take a session from its start to its dispatcher,
with exactly their six events, the card deselected and `RSP` filled. -/
def Obligations.SessionOpensWithItsSixActions : Prop :=
  ∀ (s : State) (c : SessionCaller) (a b d e : Byte) (r1 r2 : Reply) (rest : List Reply),
    s.seq = .session c .leadIdle →
    s.replies = okReply a :: r1 :: okReply b :: okReply e :: okReply d :: r2 :: rest →
    runSteps 6 s = .next
      { s with
        seq := .session c .dispatch, cs := .deselected, rsp := Rsp.filled, replies := rest,
        trace := s.trace ++ openingEvents s.frame a b d }

/-- R134: a failed action of a host session is followed by one `DESEL` and the outcome `TransportFailure`; `RSP` and
everything else stay as they stand at the moment of failure. -/
def Obligations.TransportFailureDeselectsAndReturns : Prop :=
  ∀ (s : State) (p : SessionPos) (x : Byte) (r : Reply) (rest : List Reply),
    s.seq = .session .host p → canFail p = true →
    s.replies = { fail := true, data := x } :: r :: rest →
    runSteps 2 s = .next
      { s with
        seq := .idle, cs := .deselected, outcome := some .transportFailure,
        result := some (.outcome .transportFailure), replies := rest,
        trace := s.trace ++ [failEvent p s.frame, .desel] }

/-- R133, with R127 to R131: if every poll up to the bound is answered `0xFF` the session reports `Timeout`, all of
`RSP` is `0xFF`, and exactly `bound(shape)` poll bytes have been exchanged; for every shape and every bound, 0
included (R137). -/
def Obligations.SilentPollsTimeOut : Prop :=
  ∀ (s : State) (a b d e : Byte) (r1 r2 : Reply) (rest : List Reply),
    s.seq = .session .host .leadIdle →
    s.replies = okReply a :: r1 :: okReply b :: okReply e :: okReply d :: r2 ::
      (List.replicate (pollBound s.params s.shape) (okReply Config.idleByte) ++ rest) →
    runSteps (7 + pollBound s.params s.shape) s = .next
      { s with
        seq := .idle, cs := .deselected, rsp := Rsp.filled, pollCnt := pollBound s.params s.shape,
        outcome := some .timeout, result := some (.outcome .timeout), replies := rest,
        trace := s.trace ++ openingEvents s.frame a b d ++
          List.replicate (pollBound s.params s.shape) (idleByteEvent Config.idleByte) }

/-- R131, R132, R141, R142, R144 to R148: `k` unanswered polls below the bound, a first byte other than `0xFF`, and
exactly the rest of the shape's bytes, whatever they are, make the response; its area holds it, every other area is
`0xFF`, and no further byte is exchanged. -/
def Obligations.AnswerIsReadInFull : Prop :=
  ∀ (s : State) (a b d e x : Byte) (r1 r2 : Reply) (k : Nat) (burst : List Byte) (rest : List Reply),
    s.seq = .session .host .leadIdle → k < pollBound s.params s.shape → x ≠ Config.idleByte →
    burst.length + 1 = shapeLength s.shape →
    s.replies = okReply a :: r1 :: okReply b :: okReply e :: okReply d :: r2 ::
      (List.replicate k (okReply Config.idleByte) ++ okReply x :: (burst.map okReply ++ rest)) →
    ∃ t, runSteps (8 + k + burst.length) s = .next t ∧ t.seq = .idle ∧ t.cs = .deselected ∧
      t.outcome = some (.response (x :: burst)) ∧ t.result = some (.outcome (.response (x :: burst))) ∧
      rspArea t.rsp s.shape = x :: burst ∧ othersFilled s.shape t.rsp ∧ t.pollCnt = k + 1 ∧ t.replies = rest ∧
      t.trace = s.trace ++ openingEvents s.frame a b d ++
        List.replicate k (idleByteEvent Config.idleByte) ++ idleByteEvent x :: burst.map idleByteEvent ∧
      t.frame = s.frame ∧ t.arg = s.arg ∧ t.params = s.params ∧ t.requests = s.requests

/-- R79, R140, R144 to R148: each shape code selects its length and its poll bound by the code alone. At the entry
to step 5 the poll begins with it, or, with a bound of 0, a session of the host times out (R137; for the sessions of
`BRINGUP` see `TimeoutCountsAsUnacceptable`). That the idle block keeps the selection, and that a shape code has no
effect at every other busy position, are the model's choices (log entry 8; R140 speaks of a response in progress
only). -/
def Obligations.ShapeCodesStartThePoll : Prop :=
  ∀ (i : Instr) (sh : Shape) (len : Nat) (bound : Params → Nat),
    (i, sh, len, bound) = (.shapeStatus, .status, 1, Params.pollMaxStatus) ∨
    (i, sh, len, bound) = (.shapeBusy, .busy, 1, Params.pollMaxOther) ∨
    (i, sh, len, bound) = (.shapeStatus2, .status2, 2, Params.pollMaxOther) ∨
    (i, sh, len, bound) = (.shapeOcr, .ocr, 5, Params.pollMaxOther) ∨
    (i, sh, len, bound) = (.shapeIfcond, .ifcond, 5, Params.pollMaxOther) →
    shapeLength sh = len ∧
    ∀ s : State,
      (∀ c, s.seq = .session c .dispatch → 0 < bound s.params →
        exec i s = .next { s with shape := sh, pollCnt := 1, seq := .session c .poll }) ∧
      (s.seq = .session .host .dispatch → bound s.params = 0 →
        exec i s = .next
          { s with
            shape := sh, pollCnt := 0, seq := .idle, outcome := some .timeout, result := some (.outcome .timeout) }) ∧
      (s.seq = .idle → exec i s = .next { s with shape := sh }) ∧
      (s.seq ≠ .idle → (∀ c, s.seq ≠ .session c .dispatch) → exec i s = .next s)

/-! ### BRINGUP -/

/-- R150, R151, R167: `BRINGUP` on the idle block is accepted and stands before the `DESEL` of step 1. The transient
state is re-initialised (R41, log entry 6). -/
def Obligations.BringupIsAcceptedWhenIdle : Prop :=
  ∀ s : State, s.seq = .idle →
    exec .bringup s = .next
      { s with
        seq := .preDeselect, crc7Reg := 0#7, crc16Reg := 0#16, resetTry := 0, round := 0, pollCnt := 0,
        burstIdx := 0, outcome := none, statusCode := none, result := none }

/-- R151: `DESEL` and then exactly `PRE_RESET_IDLE_BYTES` idle bytes with the card deselected, their answers
discarded; by default 10 bytes, which are at least 74 bit-times. A failed byte ends `BRINGUP` with `ERR_SEND_FAILED`
and nothing more is sent (R165, R184). -/
def Obligations.PreResetSendsItsIdleBytes : Prop :=
  (∀ (s : State) (r : Reply) (answers : List Byte) (rest : List Reply),
    s.seq = .preDeselect → answers.length = s.params.preResetIdleBytes →
    s.replies = r :: (answers.map okReply ++ rest) →
    runSteps (1 + answers.length) s = .next
      { s with
        seq := .resetSelect, cs := .deselected, replies := rest,
        trace := s.trace ++ .desel :: answers.map idleByteEvent }) ∧
  Params.default.preResetIdleBytes = 10 ∧ 74 ≤ 8 * Params.default.preResetIdleBytes ∧
  (∀ (s : State) (sent : Nat) (x : Byte) (rest : List Reply), s.seq = .preIdle sent →
    s.replies = { fail := true, data := x } :: rest →
    runSteps 2 s = .next
      { s with
        seq := .idle, statusCode := some .errSendFailed, result := some (.status .errSendFailed), replies := rest,
        trace := s.trace ++ [.xchg 0xFF#8 none] })

/-- R152: step 2 begins with one `SEL` and `RESET_TRY` at 0; with a bound of 0 no frame is sent and the verdict is
`ERR_RESET` (R172). -/
def Obligations.ResetStepBeginsWithSel : Prop :=
  ∀ (s : State) (r : Reply) (rest : List Reply), s.seq = .resetSelect → s.replies = r :: rest →
    ∃ t, step s = .next t ∧ t.cs = .selected ∧ t.resetTry = 0 ∧ t.trace = s.trace ++ [.sel] ∧
      (0 < s.params.resetRetryMax → t.seq = .resetAttempt) ∧
      (s.params.resetRetryMax = 0 → t.seq = .epilogueDeselect .reset ∧ t.statusCode = some .errReset)

/-- R153, R154, R155: the status that ends a reset attempt is accepted exactly when it is `IDLE_STATUS` or one of
the two legacy statuses, whatever those are; otherwise there is another attempt, and after the last `ERR_RESET`. -/
def Obligations.ResetStatusDecidesTheAttempt : Prop :=
  ∀ (s : State) (b : Byte) (rest : List Reply), s.seq = .session .reset .poll → s.shape = .status →
    s.replies = okReply b :: rest → b ≠ 0xFF#8 →
    ∃ t, step s = .next t ∧ t.outcome = some (.response [b]) ∧ t.trace = s.trace ++ [.xchg 0xFF#8 (some b)] ∧
      ((b = 0x01#8 ∨ b.toNat = s.params.resetLegacyA.val ∨ b.toNat = s.params.resetLegacyB.val) →
        t.seq = .epilogueDeselect .reset ∧ t.statusCode = none) ∧
      (¬(b = 0x01#8 ∨ b.toNat = s.params.resetLegacyA.val ∨ b.toNat = s.params.resetLegacyB.val) →
        (s.resetTry < s.params.resetRetryMax → t.seq = .resetAttempt) ∧
        (s.params.resetRetryMax ≤ s.resetTry →
          t.seq = .epilogueDeselect .reset ∧ t.statusCode = some .errReset))

/-- R158: the interface check is accepted exactly when byte 0 is `IDLE_STATUS`, byte 3 is `0x01` and byte 4 is
`0xAA`; bytes 1 and 2 are not examined; otherwise the verdict is `ERR_IFCHECK`. -/
def Obligations.IfcheckResponseDecidesTheVerdict : Prop :=
  ∀ (s : State) (b0 b1 b2 b3 old b4 : Byte) (rest : List Reply), s.seq = .session .ifcheck .burst →
    s.shape = .ifcond → s.burstIdx = 4 → rspArea s.rsp .ifcond = [b0, b1, b2, b3, old] →
    s.replies = okReply b4 :: rest →
    ∃ t, step s = .next t ∧ t.seq = .epilogueDeselect .ifcheck ∧
      t.outcome = some (.response [b0, b1, b2, b3, b4]) ∧
      (b0 = 0x01#8 ∧ b3 = 0x01#8 ∧ b4 = 0xAA#8 → t.statusCode = none) ∧
      (¬(b0 = 0x01#8 ∧ b3 = 0x01#8 ∧ b4 = 0xAA#8) → t.statusCode = some .errIfcheck)

/-- R160: exactly `Response([0x01])` to the prefix lets the round go on to the initialization command; any other
status abandons the round, and after the last round the verdict is `ERR_INIT` (R162). -/
def Obligations.PrefixStatusDecidesTheRound : Prop :=
  ∀ (s : State) (b : Byte) (rest : List Reply), s.seq = .session .roundPrefix .poll → s.shape = .status →
    s.replies = okReply b :: rest → b ≠ 0xFF#8 →
    ∃ t, step s = .next t ∧ t.outcome = some (.response [b]) ∧ t.trace = s.trace ++ [.xchg 0xFF#8 (some b)] ∧
      (b = 0x01#8 → t.seq = .roundInit) ∧
      (b ≠ 0x01#8 → s.round < s.params.handshakeRoundsMax → t.seq = .roundPrefix) ∧
      (b ≠ 0x01#8 → s.params.handshakeRoundsMax ≤ s.round →
        t.seq = .epilogueDeselect .handshake ∧ t.statusCode = some .errInit)

/-- R161, R162: exactly `Response([0x00])` to the initialization command ends the loop with success; any other
status goes to the next round, and after the last round the verdict is `ERR_INIT`. -/
def Obligations.InitStatusDecidesTheHandshake : Prop :=
  ∀ (s : State) (b : Byte) (rest : List Reply), s.seq = .session .roundInit .poll → s.shape = .status →
    s.replies = okReply b :: rest → b ≠ 0xFF#8 →
    ∃ t, step s = .next t ∧ t.outcome = some (.response [b]) ∧
      (b = 0x00#8 → t.seq = .epilogueDeselect .handshake ∧ t.statusCode = none) ∧
      (b ≠ 0x00#8 → s.round < s.params.handshakeRoundsMax → t.seq = .roundPrefix) ∧
      (b ≠ 0x00#8 → s.params.handshakeRoundsMax ≤ s.round →
        t.seq = .epilogueDeselect .handshake ∧ t.statusCode = some .errInit)

/-- R166, R133: the last poll answered `0xFF`, or a dispatcher whose bound is 0 (R137), is a `Timeout`, and inside
`BRINGUP` it counts as one unacceptable answer: the next attempt or round where there is one left, the step's own
failure where there is none; in step 3 it is `ERR_IFCHECK`. To the host it is the outcome of its session. -/
def Obligations.TimeoutCountsAsUnacceptable : Prop :=
  ∀ (s : State) (c : SessionCaller),
    (s.seq = .session c .poll ∧ pollBound s.params s.shape ≤ s.pollCnt ∧
        s.replies.head? = some (okReply 0xFF#8)) ∨
      (s.seq = .session c .dispatch ∧ pollBound s.params s.shape = 0) →
    ∃ t, step s = .next t ∧ t.outcome = some .timeout ∧ t.rsp = s.rsp ∧
      (c = .host → t.seq = .idle ∧ t.result = some (.outcome .timeout)) ∧
      (c = .reset → s.resetTry < s.params.resetRetryMax → t.seq = .resetAttempt) ∧
      (c = .reset → s.params.resetRetryMax ≤ s.resetTry →
        t.seq = .epilogueDeselect .reset ∧ t.statusCode = some .errReset) ∧
      (c = .ifcheck → t.seq = .epilogueDeselect .ifcheck ∧ t.statusCode = some .errIfcheck) ∧
      (c = .roundPrefix ∨ c = .roundInit → s.round < s.params.handshakeRoundsMax → t.seq = .roundPrefix) ∧
      (c = .roundPrefix ∨ c = .roundInit → s.params.handshakeRoundsMax ≤ s.round →
        t.seq = .epilogueDeselect .handshake ∧ t.statusCode = some .errInit)

/-- R165, for a session of `BRINGUP`: a failed action is followed by the session's `DESEL`, then the step is left
through its epilogue with `ERR_SEND_FAILED`; `RSP` stays as it stands. -/
def Obligations.TransportFailureLeavesTheStep : Prop :=
  ∀ (s : State) (c : SessionCaller) (st : BringupStep) (p : SessionPos) (x : Byte) (r : Reply) (rest : List Reply),
    s.seq = .session c p → callerStep c = some st → canFail p = true →
    s.replies = { fail := true, data := x } :: r :: rest →
    runSteps 2 s = .next
      { s with
        seq := .epilogueDeselect st, cs := .deselected, outcome := some .transportFailure,
        statusCode := some .errSendFailed, replies := rest,
        trace := s.trace ++ [failEvent p s.frame, .desel] }

/-- R156, R165: an epilogue is `DESEL` and one idle byte; then the step's own verdict wins whether or not that byte
failed, without a verdict a failed byte is `ERR_SEND_FAILED`, and otherwise the next step begins (after the
handshake, success). -/
def Obligations.EpilogueDeselectsAndDecides : Prop :=
  ∀ (s : State) (st : BringupStep) (r e : Reply) (rest : List Reply), s.seq = .epilogueDeselect st →
    s.replies = r :: e :: rest →
    ∃ t, runSteps 2 s = .next t ∧ t.cs = .deselected ∧ t.replies = rest ∧
      t.trace = s.trace ++ [.desel, .xchg 0xFF#8 (if e.fail = true then none else some e.data)] ∧ t.rsp = s.rsp ∧
      (∀ code, s.statusCode = some code → t.seq = .done ∧ t.statusCode = some code) ∧
      (s.statusCode = none → e.fail = true → t.seq = .done ∧ t.statusCode = some .errSendFailed) ∧
      (s.statusCode = none → e.fail = false → st = .reset → t.seq = .ifcheckCommand) ∧
      (s.statusCode = none → e.fail = false → st = .ifcheck → 0 < s.params.handshakeRoundsMax →
        t.seq = .roundPrefix ∧ t.round = 0) ∧
      (s.statusCode = none → e.fail = false → st = .ifcheck → s.params.handshakeRoundsMax = 0 →
        t.seq = .epilogueDeselect .handshake ∧ t.statusCode = some .errInit) ∧
      (s.statusCode = none → e.fail = false → st = .handshake → t.seq = .done ∧ t.statusCode = some .ok)

/-- R167, last row: at `DONE` the code is returned to the host and `SEQ` is idle again; nothing else changes. -/
def Obligations.DoneReturnsTheCode : Prop :=
  ∀ (s : State) (code : StatusCode), s.seq = .done → s.statusCode = some code →
    step s = .next { s with seq := .idle, result := some (.status code) }

/-- R89: the five status codes are distinct 8-bit numbers, success zero. -/
def Obligations.StatusCodesAreDistinct : Prop :=
  (∀ a b : StatusCode, statusByte a = statusByte b → a = b) ∧ (∀ a, (statusByte a).toNat < 5) ∧
  statusByte .ok = 0#8 ∧ statusByte .errSendFailed = 1#8 ∧ statusByte .errReset = 2#8 ∧
  statusByte .errIfcheck = 3#8 ∧ statusByte .errInit = 4#8

/-! ### The machine -/

/-- A step runs the decoded instruction: the idle block takes the host's next request, a block at work the
instruction its sequencer issues; the instruction is the decoding of the packet fetched, and a word that is no
command is refused. The list of requests and the packets are the model's form of the ports (log entries 2 and 3),
the refusal of such a word is log entry 11, and that the idle block with nothing requested stays as it is is log
entry 19. -/
def Obligations.StepRunsTheDecodedInstruction : Prop :=
  (∀ (s : State) (q : HostRequest) (rest : List HostRequest) (i : Instr), s.seq = .idle → s.requests = q :: rest →
    decode (requestPacket q) = .ok i → step s = exec i { s with requests := rest }) ∧
  (∀ (s : State) (q : HostRequest) (rest : List HostRequest) (e : DecodeError), s.seq = .idle →
    s.requests = q :: rest → decode (requestPacket q) = .error e → step s = .refused (.noCommandFrame e)) ∧
  (∀ s : State, s.seq = .idle → s.requests = [] → step s = .next s) ∧
  (∀ (s : State) (i : Instr), issuedInstr s = some i → decode (encode i) = .ok i ∧ step s = exec i s)

/-- R196: a host request presented while an operation runs is not accepted and has no effect, the command lines of
R91 included where the block sends no command of its own, and a step of a block at work takes no request. That the
answer is the same state, neither fault nor refusal, is log entry 10, and at the four places where `BRINGUP` sends a
command a command is that command (log entry 8). -/
def Obligations.BusyBlockAcceptsNoRequest : Prop :=
  (∀ s : State, s.seq ≠ .idle →
    (∀ bytes, exec (.crc7 bytes) s = .next s ∧ exec (.crc16 bytes) s = .next s) ∧
    (∀ index arg, exec (.buildFrame index arg) s = .next s) ∧
    (∀ code, exec (.sendCommand code) s = .next s) ∧
    exec .bringup s = .next s ∧
    (∀ t, step s = .next t → t.requests = s.requests)) ∧
  ∀ s : State, commandCaller s.seq = none →
    s.seq ≠ .idle ∧ exec .cmd0 s = .next s ∧ exec .cmd8 s = .next s ∧ exec .cmd55 s = .next s ∧
      exec .acmd41 s = .next s ∧
      ∀ n arg g code, exec (.cmdN n arg g code) s = .next s

/-- R38: no instruction and no step writes a parameter, and neither does a reset. -/
def Obligations.ParametersNeverChange : Prop :=
  (∀ (i : Instr) (s t : State), exec i s = .next t → t.params = s.params) ∧
  (∀ s t : State, step s = .next t → t.params = s.params) ∧
  (∀ (f : Frame) (a : ArgBytes) (s : State), (blockReset f a s).params = s.params)

/-- R13, R64: a step issues at most one action, and each event takes exactly one return of the collaborator; the
trace only grows. That a step is one action is the model's size of a step (log entry 1), and the list of returns its
form of the port (log entry 2). -/
def Obligations.EachEventTakesOneReply : Prop :=
  ∀ s t : State, step s = .next t →
    (t.trace = s.trace ∧ t.replies = s.replies) ∨
    ∃ (e : Event) (r : Reply), t.trace = s.trace ++ [e] ∧ s.replies = r :: t.replies

/-- R22, R23, R26, R27, over all instructions: `FRAME` and `ARG` are written only by `BUILD_FRAME` and the command
frames that begin with it; `RSP` only inside a session, at the `DESEL` of step 3, a poll or a burst; `CS` only by
`SEL` and `DESEL`. -/
def Obligations.EachBufferHasItsWriters : Prop :=
  ∀ (i : Instr) (s t : State), exec i s = .next t →
    (buildsFrame i = false → t.frame = s.frame ∧ t.arg = s.arg ∧ t.frameBuilt = s.frameBuilt) ∧
    ((∀ c, s.seq ≠ .session c .deselect ∧ s.seq ≠ .session c .poll ∧ s.seq ≠ .session c .burst) →
      t.rsp = s.rsp) ∧
    (i ≠ .sel → i ≠ .desel → t.cs = s.cs)

/-- R52, R200: when no operation is in progress the host reads every one of the 14 bytes of `RSP`, whether or not a
frame has been built, and every byte of `FRAME` and `ARG` once one has; after reset all of `RSP` reads `0xFF`. That
the read answers none on a busy block is the model's form of R52 (log entry 17), and none for `FRAME` and `ARG`
before any frame is built is log entry 5. -/
def Obligations.HostReadsOnlyTheIdleBlock : Prop :=
  (∀ (s : State) (b : BufferByte), s.seq ≠ .idle → hostRead b s = none) ∧
  (∀ s : State, s.seq = .idle →
    (∀ i, hostRead (.status i) s = some s.rsp.status[i]) ∧ (∀ i, hostRead (.busy i) s = some s.rsp.busy[i]) ∧
    (∀ i, hostRead (.status2 i) s = some s.rsp.status2[i]) ∧ (∀ i, hostRead (.ocr i) s = some s.rsp.ocr[i]) ∧
    (∀ i, hostRead (.ifcond i) s = some s.rsp.ifcond[i])) ∧
  (∀ s : State, s.seq = .idle → s.frameBuilt = true →
    (∀ i : Fin 6, hostRead (.frame i) s = (frameBytes s.frame)[i.val]?) ∧
    (∀ i : Fin 4, hostRead (.arg i) s = [s.arg.b0, s.arg.b1, s.arg.b2, s.arg.b3][i.val]?)) ∧
  (∀ s : State, s.frameBuilt = false →
    (∀ i, hostRead (.frame i) s = none) ∧ (∀ i, hostRead (.arg i) s = none)) ∧
  (∀ b : BufferByte, byteSpecified b State.reset = true → hostRead b State.reset = some 0xFF#8)

/-- R200, R201: after reset no operation is in progress, `RSP` is `0xFF` in all 14 bytes, `CS` is unknown, no result
stands, and the bounds are the defaults; reset from any state, in the middle of an operation or not, gives that
state again and the interrupted operation returns nothing, while the parameters and what has been seen at the ports
stay. What `FRAME` and `ARG` hold is free (log entry 5), after a reset of a running block any `f` and `a`; what the
transient state holds is the model's choice (log entry 6) and not stated here. Reset of a running block as the
operation `blockReset`, with the trace kept, is log entry 15, and `frameBuilt` is the model's record (log entries 5
and 16). -/
def Obligations.ResetStateIsAsSpecified : Prop :=
  (State.reset.seq = .idle ∧ (∀ sh, rspArea State.reset.rsp sh = List.replicate (shapeLength sh) 0xFF#8) ∧
    State.reset.cs = .unknown ∧ State.reset.frameBuilt = false ∧ State.reset.result = none ∧
    State.reset.outcome = none ∧ State.reset.statusCode = none ∧ defaultBounds State.reset.params) ∧
  ∀ (f : Frame) (a : ArgBytes) (s : State), (blockReset f a s).seq = .idle ∧ (blockReset f a s).result = none ∧
    (blockReset f a s).rsp = State.reset.rsp ∧
    (blockReset f a s).cs = .unknown ∧ (blockReset f a s).frameBuilt = false ∧ (blockReset f a s).params = s.params ∧
    (blockReset f a s).trace = s.trace ∧ State.Inv (blockReset f a s)

/-- The invariant holds after reset. -/
def Obligations.ResetMeetsTheInvariant : Prop := State.Inv State.reset

/-- Every step keeps the invariant, from every state that meets it: `ARG` mirrors `FRAME[1..5)` and the stop bit
stands (R22, R23), the live area (R25, R81), the chip-select at every position and never selected at rest (R27,
R168), the loop counters within their bounds (R31 to R34, R172), a verdict only of its own step (R36, R181), success
only after a ready status (R161). -/
def Obligations.StepKeepsTheInvariant : Prop :=
  ∀ s t : State, State.Inv s → step s = .next t → State.Inv t

/-- R25, which the spec marks as derived from R126 and R143: after any session that returned a response every area
other than the live one is `0xFF` and the response returned is the live area; after a timeout all 14 bytes are
`0xFF`. For the step that ends a session, from every state that meets the invariant. -/
def Obligations.OnlyTheLiveAreaHoldsAResponse : Prop :=
  ∀ s t : State, State.Inv s → s.outcome = none → step s = .next t →
    (∀ bytes, t.outcome = some (.response bytes) →
      rspArea t.rsp t.shape = bytes ∧ bytes.length = shapeLength t.shape ∧
      bytes.head? ≠ some 0xFF#8 ∧ ∀ sh, sh ≠ t.shape → ∀ b ∈ rspArea t.rsp sh, b = 0xFF#8) ∧
    (t.outcome = some .timeout → ∀ sh, ∀ b ∈ rspArea t.rsp sh, b = 0xFF#8)

/-- R167: the coarse state moves only along its table, no step is skipped and none is entered again from a later
one, and `DONE` is reached only with the codes of the step it is reached from. -/
def Obligations.CoarseStatesFollowTheirTable : Prop :=
  ∀ s t : State, State.Inv s → step s = .next t →
    phaseOf t.seq ∈ phaseNext (phaseOf s.seq) ∧
    (t.seq = .done → ∃ code, t.statusCode = some code ∧ code ∈ phaseCodes (phaseOf s.seq))

/-- R168, which the spec marks as derived: whatever the code, `BRINGUP` ends with the card deselected, and its last
event is an `XCHG`: the trailing idle byte of an epilogue, or the failed byte of step 1. -/
def Obligations.BringupEndsDeselected : Prop :=
  ∀ s t : State, State.Inv s → step s = .next t → t.seq = .done →
    t.cs = .deselected ∧ ∃ inp, t.trace = s.trace ++ [.xchg 0xFF#8 inp] ∧
      (((∃ sent, s.seq = .preIdle sent) ∧ inp = none) ∨ ∃ st, s.seq = .epilogueIdle st)

/-- R212, which the spec marks as derived, and R163: after `BRINGUP` returned `OK` the card is deselected,
`RSP.STATUS[0]` is `0x00`, every other area is `0xFF`, and `FRAME` and `ARG` are those of the initialization
command. -/
def Obligations.AfterOkTheBufferShowsReady : Prop :=
  ∀ s t : State, State.Inv s → s.seq = .done → s.statusCode = some .ok → step s = .next t →
    t.result = some (.status .ok) ∧ t.cs = .deselected ∧ rspArea t.rsp .status = [0x00#8] ∧
    (∀ sh, sh ≠ .status → ∀ b ∈ rspArea t.rsp sh, b = 0xFF#8) ∧
    frameBytes t.frame = [0x69#8, 0x40#8, 0x00#8, 0x00#8, 0x00#8, 0x77#8] ∧
    t.arg = { b0 := 0x40#8, b1 := 0x00#8, b2 := 0x00#8, b3 := 0x00#8 }

/-- R135, R169, which the spec marks as derived: the byte-times still to come never grow: what a step of an
operation spends is taken from its bound. At the start of a session the bound is 29, 17, 18, 21 and 21 byte-times
for the five shapes with the default bounds. -/
def Obligations.ByteTimesAreSpentFromTheBound : Prop :=
  (∀ s t : State, State.Inv s → s.seq ≠ .idle → step s = .next t →
    byteTimes t.trace + bytesLeft t ≤ byteTimes s.trace + bytesLeft s) ∧
  (∀ s : State, s.seq = .session .host .leadIdle → defaultBounds s.params →
    (s.shape = .status → bytesLeft s = 29) ∧ (s.shape = .busy → bytesLeft s = 17) ∧
    (s.shape = .status2 → bytesLeft s = 18) ∧ (s.shape = .ocr → bytesLeft s = 21) ∧
    (s.shape = .ifcond → bytesLeft s = 21))

/-- R169, which the spec marks as derived: with the default bounds a `BRINGUP`, with nothing requested after it,
never spends more than 1049 byte-times, however long the machine runs and whatever the collaborator returns. -/
def Obligations.BringupSpendsAtMost1049ByteTimes : Prop :=
  ∀ (s u t : State) (n : Nat), State.Inv s → s.seq = .idle → s.requests = [] → defaultBounds s.params →
    exec .bringup s = .next u → runSteps n u = .next t → byteTimes t.trace ≤ byteTimes s.trace + 1049

/-- R169, R172: a block at work whose collaborator has something to return always takes a step, and every such step
brings it closer to the end of its operation. -/
def Obligations.BusyStepComesCloserToTheEnd : Prop :=
  ∀ s : State, State.Inv s → s.seq ≠ .idle → s.replies ≠ [] →
    ∃ t, step s = .next t ∧ stepsLeft t < stepsLeft s

/-- R169, R221: every operation ends if every transport action returns: with enough returns to come the block is
idle again within the bound. -/
def Obligations.EveryOperationEndsIfActionsReturn : Prop :=
  ∀ s : State, State.Inv s → s.seq ≠ .idle → stepsLeft s ≤ s.replies.length →
    ∃ n t, n ≤ stepsLeft s ∧ runSteps n s = .next t ∧ t.seq = .idle ∧ t.result ≠ none

/-- R126: the machine's session, one event a step, does what the pseudocode of `SEND_COMMAND` does, to the last
field of the state; where the pseudocode waits for ever for an action, so does the machine (R219). -/
def Obligations.SessionMeetsItsPseudocode : Prop :=
  ∀ s : State, s.seq = .session .host .leadIdle →
    (∀ o s', sessionRun s.shape s = some (o, s') →
      ∃ n, runSteps n s = .next { s' with seq := .idle, outcome := some o, result := some (.outcome o) }) ∧
    (sessionRun s.shape s = none → ∀ n, ∃ t, runSteps n s = .next t ∧ t.seq ≠ .idle)

/-- R150: the machine's `BRINGUP`, one event a step, does what the pseudocode does, to the last field of the state;
where the pseudocode waits for ever for an action, so does the machine (R219). -/
def Obligations.BringupMeetsItsPseudocode : Prop :=
  ∀ s : State, s.seq = .preDeselect →
    (∀ code s', bringupRun s = some (code, s') →
      ∃ n, runSteps n s = .next { s' with seq := .idle, result := some (.status code) }) ∧
    (bringupRun s = none → ∀ n, ∃ t, runSteps n s = .next t ∧ t.seq ≠ .idle)

/-- R41, R170: `BRINGUP` depends on nothing an earlier operation left: two blocks with the same parameters and the
same returns to come, whatever else they hold, go through the same positions, issue the same events and return the
same code. -/
def Obligations.BringupDependsOnlyOnRepliesAndParameters : Prop :=
  ∀ s1 s2 u1 u2 : State, s1.seq = .idle → s2.seq = .idle → s1.params = s2.params → s1.replies = s2.replies →
    s1.requests = [] → s2.requests = [] → exec .bringup s1 = .next u1 → exec .bringup s2 = .next u2 →
    ∀ n, ∃ t1 t2 events, runSteps n u1 = .next t1 ∧ runSteps n u2 = .next t2 ∧ t1.seq = t2.seq ∧
      t1.result = t2.result ∧ t1.trace = s1.trace ++ events ∧ t2.trace = s2.trace ++ events
end

