-- ==== Sys2Proof/Laws/Crc.lean ====
section
/-! SUPPORT. Lemmas about the CRC engine and the frame word: continuing a CRC, and each field of a command word read
back. -/

namespace Sys2Proof.Machine

theorem crc7From_append (reg : Crc7Value) (x y : List Byte) :
    crc7From reg (x ++ y) = crc7From (crc7From reg x) y := by simp [crc7From]

theorem crc16From_append (reg : Crc16Value) (x y : List Byte) :
    crc16From reg (x ++ y) = crc16From (crc16From reg x) y := by simp [crc16From]

/-- One message bit is linear in the register and the message bit together. -/
theorem crc7Bit_xor (r q : Crc7Value) (m n : Bool) :
    crc7Bit (r ^^^ q) (m ^^ n) = crc7Bit r m ^^^ crc7Bit q n := by
  have h : (r ^^^ q)[6] = (r[6] ^^ q[6]) := by simp
  unfold crc7Bit
  rw [h, BitVec.shiftLeft_xor_distrib]
  generalize r <<< 1 = a, q <<< 1 = b, Config.crc7Poly = p
  cases r[6] <;> cases q[6] <;> cases m <;> cases n <;> ext i hi <;> simp <;>
    cases a[i] <;> cases b[i] <;> cases p[i] <;> rfl

/-- The bits of a command word, by field (R70). -/
theorem commandWord_getLsbD (n : BitVec 6) (arg : Arg32) (g : Crc7Value) (k : Nat) :
    (commandWord n arg g).getLsbD k =
      if k < 1 then (1#1).getLsbD k
      else if k - 1 < 7 then g.getLsbD (k - 1)
      else if k - 1 - 7 < 32 then arg.getLsbD (k - 1 - 7)
      else if k - 1 - 7 - 32 < 6 then n.getLsbD (k - 1 - 7 - 32)
      else (0b01#2).getLsbD (k - 1 - 7 - 32 - 6) := by
  have h : commandWord n arg g = (0b01#2 ++ n ++ arg ++ g ++ 1#1 : BitVec (2 + 6 + 32 + 7 + 1)).cast rfl := rfl
  rw [h, BitVec.getLsbD_cast]
  simp only [BitVec.getLsbD_append]

@[simp] theorem wordMarker_commandWord (n : BitVec 6) (arg : Arg32) (g : Crc7Value) :
    wordMarker (commandWord n arg g) = 0b01#2 := by
  apply BitVec.eq_of_getLsbD_eq
  intro i hi
  have : i = 0 ∨ i = 1 := by omega
  rcases this with rfl | rfl <;> rw [wordMarker, BitVec.getLsbD_extractLsb', commandWord_getLsbD] <;> rfl

@[simp] theorem wordStop_commandWord (n : BitVec 6) (arg : Arg32) (g : Crc7Value) :
    wordStop (commandWord n arg g) = 1#1 := by
  apply BitVec.eq_of_getLsbD_eq
  intro i hi
  obtain rfl : i = 0 := by omega
  rw [wordStop, BitVec.getLsbD_extractLsb', commandWord_getLsbD]
  rfl

@[simp] theorem wordIndex_commandWord (n : BitVec 6) (arg : Arg32) (g : Crc7Value) :
    wordIndex (commandWord n arg g) = n := by
  apply BitVec.eq_of_getLsbD_eq
  intro i hi
  rw [wordIndex, BitVec.getLsbD_extractLsb', commandWord_getLsbD, if_neg (by omega), if_neg (by omega),
    if_neg (by omega), if_pos (by omega), show 40 + i - 1 - 7 - 32 = i by omega]
  simp [hi]

@[simp] theorem wordArg_commandWord (n : BitVec 6) (arg : Arg32) (g : Crc7Value) :
    wordArg (commandWord n arg g) = arg := by
  apply BitVec.eq_of_getLsbD_eq
  intro i hi
  rw [wordArg, BitVec.getLsbD_extractLsb', commandWord_getLsbD, if_neg (by omega), if_neg (by omega),
    if_pos (by omega), show 8 + i - 1 - 7 = i by omega]
  simp [hi]

@[simp] theorem wordCrc_commandWord (n : BitVec 6) (arg : Arg32) (g : Crc7Value) :
    wordCrc (commandWord n arg g) = g := by
  apply BitVec.eq_of_getLsbD_eq
  intro i hi
  rw [wordCrc, BitVec.getLsbD_extractLsb', commandWord_getLsbD, if_neg (by omega), if_pos (by omega),
    show 1 + i - 1 = i by omega]
  simp [hi]

end Sys2Proof.Machine
end

