-- ==== Sys2Proof/Laws/State.lean ====
section
/-! SUPPORT. One lemma per field per named update of the state, each true by definition, so that no proof unfolds an
update to read a field. -/

namespace Sys2Proof.Machine

variable (s : State)

/-! ### fillRsp -/

@[simp] theorem fillRsp_params : (fillRsp s).params = s.params := rfl
@[simp] theorem fillRsp_seq : (fillRsp s).seq = s.seq := rfl
@[simp] theorem fillRsp_frame : (fillRsp s).frame = s.frame := rfl
@[simp] theorem fillRsp_arg : (fillRsp s).arg = s.arg := rfl
@[simp] theorem fillRsp_frameBuilt : (fillRsp s).frameBuilt = s.frameBuilt := rfl
@[simp] theorem fillRsp_rsp : (fillRsp s).rsp = Rsp.filled := rfl
@[simp] theorem fillRsp_cs : (fillRsp s).cs = s.cs := rfl
@[simp] theorem fillRsp_crc7Reg : (fillRsp s).crc7Reg = s.crc7Reg := rfl
@[simp] theorem fillRsp_crc16Reg : (fillRsp s).crc16Reg = s.crc16Reg := rfl
@[simp] theorem fillRsp_resetTry : (fillRsp s).resetTry = s.resetTry := rfl
@[simp] theorem fillRsp_round : (fillRsp s).round = s.round := rfl
@[simp] theorem fillRsp_pollCnt : (fillRsp s).pollCnt = s.pollCnt := rfl
@[simp] theorem fillRsp_burstIdx : (fillRsp s).burstIdx = s.burstIdx := rfl
@[simp] theorem fillRsp_shape : (fillRsp s).shape = s.shape := rfl
@[simp] theorem fillRsp_outcome : (fillRsp s).outcome = s.outcome := rfl
@[simp] theorem fillRsp_statusCode : (fillRsp s).statusCode = s.statusCode := rfl
@[simp] theorem fillRsp_result : (fillRsp s).result = s.result := rfl
@[simp] theorem fillRsp_requests : (fillRsp s).requests = s.requests := rfl
@[simp] theorem fillRsp_replies : (fillRsp s).replies = s.replies := rfl
@[simp] theorem fillRsp_trace : (fillRsp s).trace = s.trace := rfl

/-! ### storeByte -/

@[simp] theorem storeByte_params (i : Nat) (v : Byte) : (storeByte i v s).params = s.params := rfl
@[simp] theorem storeByte_seq (i : Nat) (v : Byte) : (storeByte i v s).seq = s.seq := rfl
@[simp] theorem storeByte_frame (i : Nat) (v : Byte) : (storeByte i v s).frame = s.frame := rfl
@[simp] theorem storeByte_arg (i : Nat) (v : Byte) : (storeByte i v s).arg = s.arg := rfl
@[simp] theorem storeByte_frameBuilt (i : Nat) (v : Byte) : (storeByte i v s).frameBuilt = s.frameBuilt := rfl
@[simp] theorem storeByte_rsp (i : Nat) (v : Byte) : (storeByte i v s).rsp = rspWrite s.rsp s.shape i v := rfl
@[simp] theorem storeByte_cs (i : Nat) (v : Byte) : (storeByte i v s).cs = s.cs := rfl
@[simp] theorem storeByte_crc7Reg (i : Nat) (v : Byte) : (storeByte i v s).crc7Reg = s.crc7Reg := rfl
@[simp] theorem storeByte_crc16Reg (i : Nat) (v : Byte) : (storeByte i v s).crc16Reg = s.crc16Reg := rfl
@[simp] theorem storeByte_resetTry (i : Nat) (v : Byte) : (storeByte i v s).resetTry = s.resetTry := rfl
@[simp] theorem storeByte_round (i : Nat) (v : Byte) : (storeByte i v s).round = s.round := rfl
@[simp] theorem storeByte_pollCnt (i : Nat) (v : Byte) : (storeByte i v s).pollCnt = s.pollCnt := rfl
@[simp] theorem storeByte_burstIdx (i : Nat) (v : Byte) : (storeByte i v s).burstIdx = s.burstIdx := rfl
@[simp] theorem storeByte_shape (i : Nat) (v : Byte) : (storeByte i v s).shape = s.shape := rfl
@[simp] theorem storeByte_outcome (i : Nat) (v : Byte) : (storeByte i v s).outcome = s.outcome := rfl
@[simp] theorem storeByte_statusCode (i : Nat) (v : Byte) : (storeByte i v s).statusCode = s.statusCode := rfl
@[simp] theorem storeByte_result (i : Nat) (v : Byte) : (storeByte i v s).result = s.result := rfl
@[simp] theorem storeByte_requests (i : Nat) (v : Byte) : (storeByte i v s).requests = s.requests := rfl
@[simp] theorem storeByte_replies (i : Nat) (v : Byte) : (storeByte i v s).replies = s.replies := rfl
@[simp] theorem storeByte_trace (i : Nat) (v : Byte) : (storeByte i v s).trace = s.trace := rfl

/-! ### writeFrame -/

@[simp] theorem writeFrame_params (f : Frame) : (writeFrame f s).params = s.params := rfl
@[simp] theorem writeFrame_seq (f : Frame) : (writeFrame f s).seq = s.seq := rfl
@[simp] theorem writeFrame_frame (f : Frame) : (writeFrame f s).frame = f := rfl
@[simp] theorem writeFrame_arg (f : Frame) : (writeFrame f s).arg = frameArg f := rfl
@[simp] theorem writeFrame_frameBuilt (f : Frame) : (writeFrame f s).frameBuilt = true := rfl
@[simp] theorem writeFrame_rsp (f : Frame) : (writeFrame f s).rsp = s.rsp := rfl
@[simp] theorem writeFrame_cs (f : Frame) : (writeFrame f s).cs = s.cs := rfl
@[simp] theorem writeFrame_crc7Reg (f : Frame) : (writeFrame f s).crc7Reg = s.crc7Reg := rfl
@[simp] theorem writeFrame_crc16Reg (f : Frame) : (writeFrame f s).crc16Reg = s.crc16Reg := rfl
@[simp] theorem writeFrame_resetTry (f : Frame) : (writeFrame f s).resetTry = s.resetTry := rfl
@[simp] theorem writeFrame_round (f : Frame) : (writeFrame f s).round = s.round := rfl
@[simp] theorem writeFrame_pollCnt (f : Frame) : (writeFrame f s).pollCnt = s.pollCnt := rfl
@[simp] theorem writeFrame_burstIdx (f : Frame) : (writeFrame f s).burstIdx = s.burstIdx := rfl
@[simp] theorem writeFrame_shape (f : Frame) : (writeFrame f s).shape = s.shape := rfl
@[simp] theorem writeFrame_outcome (f : Frame) : (writeFrame f s).outcome = s.outcome := rfl
@[simp] theorem writeFrame_statusCode (f : Frame) : (writeFrame f s).statusCode = s.statusCode := rfl
@[simp] theorem writeFrame_result (f : Frame) : (writeFrame f s).result = s.result := rfl
@[simp] theorem writeFrame_requests (f : Frame) : (writeFrame f s).requests = s.requests := rfl
@[simp] theorem writeFrame_replies (f : Frame) : (writeFrame f s).replies = s.replies := rfl
@[simp] theorem writeFrame_trace (f : Frame) : (writeFrame f s).trace = s.trace := rfl

/-! ### framerBuild -/

@[simp] theorem framerBuild_params (index : BitVec 8) (a : Arg32) : (framerBuild index a s).params = s.params := rfl
@[simp] theorem framerBuild_seq (index : BitVec 8) (a : Arg32) : (framerBuild index a s).seq = s.seq := rfl
@[simp] theorem framerBuild_frame (index : BitVec 8) (a : Arg32) : (framerBuild index a s).frame = buildFrame index a := rfl
@[simp] theorem framerBuild_arg (index : BitVec 8) (a : Arg32) : (framerBuild index a s).arg = frameArg (buildFrame index a) := rfl
@[simp] theorem framerBuild_frameBuilt (index : BitVec 8) (a : Arg32) : (framerBuild index a s).frameBuilt = true := rfl
@[simp] theorem framerBuild_rsp (index : BitVec 8) (a : Arg32) : (framerBuild index a s).rsp = s.rsp := rfl
@[simp] theorem framerBuild_cs (index : BitVec 8) (a : Arg32) : (framerBuild index a s).cs = s.cs := rfl
@[simp] theorem framerBuild_crc7Reg (index : BitVec 8) (a : Arg32) : (framerBuild index a s).crc7Reg = frameCrcReg index a s.crc7Reg := rfl
@[simp] theorem framerBuild_crc16Reg (index : BitVec 8) (a : Arg32) : (framerBuild index a s).crc16Reg = s.crc16Reg := rfl
@[simp] theorem framerBuild_resetTry (index : BitVec 8) (a : Arg32) : (framerBuild index a s).resetTry = s.resetTry := rfl
@[simp] theorem framerBuild_round (index : BitVec 8) (a : Arg32) : (framerBuild index a s).round = s.round := rfl
@[simp] theorem framerBuild_pollCnt (index : BitVec 8) (a : Arg32) : (framerBuild index a s).pollCnt = s.pollCnt := rfl
@[simp] theorem framerBuild_burstIdx (index : BitVec 8) (a : Arg32) : (framerBuild index a s).burstIdx = s.burstIdx := rfl
@[simp] theorem framerBuild_shape (index : BitVec 8) (a : Arg32) : (framerBuild index a s).shape = s.shape := rfl
@[simp] theorem framerBuild_outcome (index : BitVec 8) (a : Arg32) : (framerBuild index a s).outcome = s.outcome := rfl
@[simp] theorem framerBuild_statusCode (index : BitVec 8) (a : Arg32) : (framerBuild index a s).statusCode = s.statusCode := rfl
@[simp] theorem framerBuild_result (index : BitVec 8) (a : Arg32) : (framerBuild index a s).result = s.result := rfl
@[simp] theorem framerBuild_requests (index : BitVec 8) (a : Arg32) : (framerBuild index a s).requests = s.requests := rfl
@[simp] theorem framerBuild_replies (index : BitVec 8) (a : Arg32) : (framerBuild index a s).replies = s.replies := rfl
@[simp] theorem framerBuild_trace (index : BitVec 8) (a : Arg32) : (framerBuild index a s).trace = s.trace := rfl

/-! ### goto -/

@[simp] theorem goto_params (p : SeqPos) : (goto p s).params = s.params := rfl
@[simp] theorem goto_seq (p : SeqPos) : (goto p s).seq = p := rfl
@[simp] theorem goto_frame (p : SeqPos) : (goto p s).frame = s.frame := rfl
@[simp] theorem goto_arg (p : SeqPos) : (goto p s).arg = s.arg := rfl
@[simp] theorem goto_frameBuilt (p : SeqPos) : (goto p s).frameBuilt = s.frameBuilt := rfl
@[simp] theorem goto_rsp (p : SeqPos) : (goto p s).rsp = s.rsp := rfl
@[simp] theorem goto_cs (p : SeqPos) : (goto p s).cs = s.cs := rfl
@[simp] theorem goto_crc7Reg (p : SeqPos) : (goto p s).crc7Reg = s.crc7Reg := rfl
@[simp] theorem goto_crc16Reg (p : SeqPos) : (goto p s).crc16Reg = s.crc16Reg := rfl
@[simp] theorem goto_resetTry (p : SeqPos) : (goto p s).resetTry = s.resetTry := rfl
@[simp] theorem goto_round (p : SeqPos) : (goto p s).round = s.round := rfl
@[simp] theorem goto_pollCnt (p : SeqPos) : (goto p s).pollCnt = s.pollCnt := rfl
@[simp] theorem goto_burstIdx (p : SeqPos) : (goto p s).burstIdx = s.burstIdx := rfl
@[simp] theorem goto_shape (p : SeqPos) : (goto p s).shape = s.shape := rfl
@[simp] theorem goto_outcome (p : SeqPos) : (goto p s).outcome = s.outcome := rfl
@[simp] theorem goto_statusCode (p : SeqPos) : (goto p s).statusCode = s.statusCode := rfl
@[simp] theorem goto_result (p : SeqPos) : (goto p s).result = s.result := rfl
@[simp] theorem goto_requests (p : SeqPos) : (goto p s).requests = s.requests := rfl
@[simp] theorem goto_replies (p : SeqPos) : (goto p s).replies = s.replies := rfl
@[simp] theorem goto_trace (p : SeqPos) : (goto p s).trace = s.trace := rfl

/-! ### setCs -/

@[simp] theorem setCs_params (c : ChipSelect) : (setCs c s).params = s.params := rfl
@[simp] theorem setCs_seq (c : ChipSelect) : (setCs c s).seq = s.seq := rfl
@[simp] theorem setCs_frame (c : ChipSelect) : (setCs c s).frame = s.frame := rfl
@[simp] theorem setCs_arg (c : ChipSelect) : (setCs c s).arg = s.arg := rfl
@[simp] theorem setCs_frameBuilt (c : ChipSelect) : (setCs c s).frameBuilt = s.frameBuilt := rfl
@[simp] theorem setCs_rsp (c : ChipSelect) : (setCs c s).rsp = s.rsp := rfl
@[simp] theorem setCs_cs (c : ChipSelect) : (setCs c s).cs = c := rfl
@[simp] theorem setCs_crc7Reg (c : ChipSelect) : (setCs c s).crc7Reg = s.crc7Reg := rfl
@[simp] theorem setCs_crc16Reg (c : ChipSelect) : (setCs c s).crc16Reg = s.crc16Reg := rfl
@[simp] theorem setCs_resetTry (c : ChipSelect) : (setCs c s).resetTry = s.resetTry := rfl
@[simp] theorem setCs_round (c : ChipSelect) : (setCs c s).round = s.round := rfl
@[simp] theorem setCs_pollCnt (c : ChipSelect) : (setCs c s).pollCnt = s.pollCnt := rfl
@[simp] theorem setCs_burstIdx (c : ChipSelect) : (setCs c s).burstIdx = s.burstIdx := rfl
@[simp] theorem setCs_shape (c : ChipSelect) : (setCs c s).shape = s.shape := rfl
@[simp] theorem setCs_outcome (c : ChipSelect) : (setCs c s).outcome = s.outcome := rfl
@[simp] theorem setCs_statusCode (c : ChipSelect) : (setCs c s).statusCode = s.statusCode := rfl
@[simp] theorem setCs_result (c : ChipSelect) : (setCs c s).result = s.result := rfl
@[simp] theorem setCs_requests (c : ChipSelect) : (setCs c s).requests = s.requests := rfl
@[simp] theorem setCs_replies (c : ChipSelect) : (setCs c s).replies = s.replies := rfl
@[simp] theorem setCs_trace (c : ChipSelect) : (setCs c s).trace = s.trace := rfl

/-! ### clearTransient -/

@[simp] theorem clearTransient_params : (clearTransient s).params = s.params := rfl
@[simp] theorem clearTransient_seq : (clearTransient s).seq = s.seq := rfl
@[simp] theorem clearTransient_frame : (clearTransient s).frame = s.frame := rfl
@[simp] theorem clearTransient_arg : (clearTransient s).arg = s.arg := rfl
@[simp] theorem clearTransient_frameBuilt : (clearTransient s).frameBuilt = s.frameBuilt := rfl
@[simp] theorem clearTransient_rsp : (clearTransient s).rsp = s.rsp := rfl
@[simp] theorem clearTransient_cs : (clearTransient s).cs = s.cs := rfl
@[simp] theorem clearTransient_crc7Reg : (clearTransient s).crc7Reg = 0#7 := rfl
@[simp] theorem clearTransient_crc16Reg : (clearTransient s).crc16Reg = 0#16 := rfl
@[simp] theorem clearTransient_resetTry : (clearTransient s).resetTry = 0 := rfl
@[simp] theorem clearTransient_round : (clearTransient s).round = 0 := rfl
@[simp] theorem clearTransient_pollCnt : (clearTransient s).pollCnt = 0 := rfl
@[simp] theorem clearTransient_burstIdx : (clearTransient s).burstIdx = 0 := rfl
@[simp] theorem clearTransient_shape : (clearTransient s).shape = s.shape := rfl
@[simp] theorem clearTransient_outcome : (clearTransient s).outcome = none := rfl
@[simp] theorem clearTransient_statusCode : (clearTransient s).statusCode = none := rfl
@[simp] theorem clearTransient_result : (clearTransient s).result = none := rfl
@[simp] theorem clearTransient_requests : (clearTransient s).requests = s.requests := rfl
@[simp] theorem clearTransient_replies : (clearTransient s).replies = s.replies := rfl
@[simp] theorem clearTransient_trace : (clearTransient s).trace = s.trace := rfl

/-! ### startSession -/

@[simp] theorem startSession_params (c : SessionCaller) (sh : Shape) : (startSession c sh s).params = s.params := rfl
@[simp] theorem startSession_seq (c : SessionCaller) (sh : Shape) : (startSession c sh s).seq = .session c .leadIdle := rfl
@[simp] theorem startSession_frame (c : SessionCaller) (sh : Shape) : (startSession c sh s).frame = s.frame := rfl
@[simp] theorem startSession_arg (c : SessionCaller) (sh : Shape) : (startSession c sh s).arg = s.arg := rfl
@[simp] theorem startSession_frameBuilt (c : SessionCaller) (sh : Shape) : (startSession c sh s).frameBuilt = s.frameBuilt := rfl
@[simp] theorem startSession_rsp (c : SessionCaller) (sh : Shape) : (startSession c sh s).rsp = s.rsp := rfl
@[simp] theorem startSession_cs (c : SessionCaller) (sh : Shape) : (startSession c sh s).cs = s.cs := rfl
@[simp] theorem startSession_crc7Reg (c : SessionCaller) (sh : Shape) : (startSession c sh s).crc7Reg = s.crc7Reg := rfl
@[simp] theorem startSession_crc16Reg (c : SessionCaller) (sh : Shape) : (startSession c sh s).crc16Reg = s.crc16Reg := rfl
@[simp] theorem startSession_resetTry (c : SessionCaller) (sh : Shape) : (startSession c sh s).resetTry = s.resetTry := rfl
@[simp] theorem startSession_round (c : SessionCaller) (sh : Shape) : (startSession c sh s).round = s.round := rfl
@[simp] theorem startSession_pollCnt (c : SessionCaller) (sh : Shape) : (startSession c sh s).pollCnt = s.pollCnt := rfl
@[simp] theorem startSession_burstIdx (c : SessionCaller) (sh : Shape) : (startSession c sh s).burstIdx = s.burstIdx := rfl
@[simp] theorem startSession_shape (c : SessionCaller) (sh : Shape) : (startSession c sh s).shape = sh := rfl
@[simp] theorem startSession_outcome (c : SessionCaller) (sh : Shape) : (startSession c sh s).outcome = none := rfl
@[simp] theorem startSession_statusCode (c : SessionCaller) (sh : Shape) : (startSession c sh s).statusCode = s.statusCode := rfl
@[simp] theorem startSession_result (c : SessionCaller) (sh : Shape) : (startSession c sh s).result = s.result := rfl
@[simp] theorem startSession_requests (c : SessionCaller) (sh : Shape) : (startSession c sh s).requests = s.requests := rfl
@[simp] theorem startSession_replies (c : SessionCaller) (sh : Shape) : (startSession c sh s).replies = s.replies := rfl
@[simp] theorem startSession_trace (c : SessionCaller) (sh : Shape) : (startSession c sh s).trace = s.trace := rfl

/-! ### failSession -/

@[simp] theorem failSession_params (c : SessionCaller) : (failSession c s).params = s.params := rfl
@[simp] theorem failSession_seq (c : SessionCaller) : (failSession c s).seq = .session c .failDeselect := rfl
@[simp] theorem failSession_frame (c : SessionCaller) : (failSession c s).frame = s.frame := rfl
@[simp] theorem failSession_arg (c : SessionCaller) : (failSession c s).arg = s.arg := rfl
@[simp] theorem failSession_frameBuilt (c : SessionCaller) : (failSession c s).frameBuilt = s.frameBuilt := rfl
@[simp] theorem failSession_rsp (c : SessionCaller) : (failSession c s).rsp = s.rsp := rfl
@[simp] theorem failSession_cs (c : SessionCaller) : (failSession c s).cs = s.cs := rfl
@[simp] theorem failSession_crc7Reg (c : SessionCaller) : (failSession c s).crc7Reg = s.crc7Reg := rfl
@[simp] theorem failSession_crc16Reg (c : SessionCaller) : (failSession c s).crc16Reg = s.crc16Reg := rfl
@[simp] theorem failSession_resetTry (c : SessionCaller) : (failSession c s).resetTry = s.resetTry := rfl
@[simp] theorem failSession_round (c : SessionCaller) : (failSession c s).round = s.round := rfl
@[simp] theorem failSession_pollCnt (c : SessionCaller) : (failSession c s).pollCnt = s.pollCnt := rfl
@[simp] theorem failSession_burstIdx (c : SessionCaller) : (failSession c s).burstIdx = s.burstIdx := rfl
@[simp] theorem failSession_shape (c : SessionCaller) : (failSession c s).shape = s.shape := rfl
@[simp] theorem failSession_outcome (c : SessionCaller) : (failSession c s).outcome = s.outcome := rfl
@[simp] theorem failSession_statusCode (c : SessionCaller) : (failSession c s).statusCode = s.statusCode := rfl
@[simp] theorem failSession_result (c : SessionCaller) : (failSession c s).result = s.result := rfl
@[simp] theorem failSession_requests (c : SessionCaller) : (failSession c s).requests = s.requests := rfl
@[simp] theorem failSession_replies (c : SessionCaller) : (failSession c s).replies = s.replies := rfl
@[simp] theorem failSession_trace (c : SessionCaller) : (failSession c s).trace = s.trace := rfl

/-! ### enterEpilogue -/

@[simp] theorem enterEpilogue_params (st : BringupStep) (v : Option StatusCode) : (enterEpilogue st v s).params = s.params := rfl
@[simp] theorem enterEpilogue_seq (st : BringupStep) (v : Option StatusCode) : (enterEpilogue st v s).seq = .epilogueDeselect st := rfl
@[simp] theorem enterEpilogue_frame (st : BringupStep) (v : Option StatusCode) : (enterEpilogue st v s).frame = s.frame := rfl
@[simp] theorem enterEpilogue_arg (st : BringupStep) (v : Option StatusCode) : (enterEpilogue st v s).arg = s.arg := rfl
@[simp] theorem enterEpilogue_frameBuilt (st : BringupStep) (v : Option StatusCode) : (enterEpilogue st v s).frameBuilt = s.frameBuilt := rfl
@[simp] theorem enterEpilogue_rsp (st : BringupStep) (v : Option StatusCode) : (enterEpilogue st v s).rsp = s.rsp := rfl
@[simp] theorem enterEpilogue_cs (st : BringupStep) (v : Option StatusCode) : (enterEpilogue st v s).cs = s.cs := rfl
@[simp] theorem enterEpilogue_crc7Reg (st : BringupStep) (v : Option StatusCode) : (enterEpilogue st v s).crc7Reg = s.crc7Reg := rfl
@[simp] theorem enterEpilogue_crc16Reg (st : BringupStep) (v : Option StatusCode) : (enterEpilogue st v s).crc16Reg = s.crc16Reg := rfl
@[simp] theorem enterEpilogue_resetTry (st : BringupStep) (v : Option StatusCode) : (enterEpilogue st v s).resetTry = s.resetTry := rfl
@[simp] theorem enterEpilogue_round (st : BringupStep) (v : Option StatusCode) : (enterEpilogue st v s).round = s.round := rfl
@[simp] theorem enterEpilogue_pollCnt (st : BringupStep) (v : Option StatusCode) : (enterEpilogue st v s).pollCnt = s.pollCnt := rfl
@[simp] theorem enterEpilogue_burstIdx (st : BringupStep) (v : Option StatusCode) : (enterEpilogue st v s).burstIdx = s.burstIdx := rfl
@[simp] theorem enterEpilogue_shape (st : BringupStep) (v : Option StatusCode) : (enterEpilogue st v s).shape = s.shape := rfl
@[simp] theorem enterEpilogue_outcome (st : BringupStep) (v : Option StatusCode) : (enterEpilogue st v s).outcome = s.outcome := rfl
@[simp] theorem enterEpilogue_statusCode (st : BringupStep) (v : Option StatusCode) : (enterEpilogue st v s).statusCode = v := rfl
@[simp] theorem enterEpilogue_result (st : BringupStep) (v : Option StatusCode) : (enterEpilogue st v s).result = s.result := rfl
@[simp] theorem enterEpilogue_requests (st : BringupStep) (v : Option StatusCode) : (enterEpilogue st v s).requests = s.requests := rfl
@[simp] theorem enterEpilogue_replies (st : BringupStep) (v : Option StatusCode) : (enterEpilogue st v s).replies = s.replies := rfl
@[simp] theorem enterEpilogue_trace (st : BringupStep) (v : Option StatusCode) : (enterEpilogue st v s).trace = s.trace := rfl

/-! ### finishBringup -/

@[simp] theorem finishBringup_params (code : StatusCode) : (finishBringup code s).params = s.params := rfl
@[simp] theorem finishBringup_seq (code : StatusCode) : (finishBringup code s).seq = .done := rfl
@[simp] theorem finishBringup_frame (code : StatusCode) : (finishBringup code s).frame = s.frame := rfl
@[simp] theorem finishBringup_arg (code : StatusCode) : (finishBringup code s).arg = s.arg := rfl
@[simp] theorem finishBringup_frameBuilt (code : StatusCode) : (finishBringup code s).frameBuilt = s.frameBuilt := rfl
@[simp] theorem finishBringup_rsp (code : StatusCode) : (finishBringup code s).rsp = s.rsp := rfl
@[simp] theorem finishBringup_cs (code : StatusCode) : (finishBringup code s).cs = s.cs := rfl
@[simp] theorem finishBringup_crc7Reg (code : StatusCode) : (finishBringup code s).crc7Reg = s.crc7Reg := rfl
@[simp] theorem finishBringup_crc16Reg (code : StatusCode) : (finishBringup code s).crc16Reg = s.crc16Reg := rfl
@[simp] theorem finishBringup_resetTry (code : StatusCode) : (finishBringup code s).resetTry = s.resetTry := rfl
@[simp] theorem finishBringup_round (code : StatusCode) : (finishBringup code s).round = s.round := rfl
@[simp] theorem finishBringup_pollCnt (code : StatusCode) : (finishBringup code s).pollCnt = s.pollCnt := rfl
@[simp] theorem finishBringup_burstIdx (code : StatusCode) : (finishBringup code s).burstIdx = s.burstIdx := rfl
@[simp] theorem finishBringup_shape (code : StatusCode) : (finishBringup code s).shape = s.shape := rfl
@[simp] theorem finishBringup_outcome (code : StatusCode) : (finishBringup code s).outcome = s.outcome := rfl
@[simp] theorem finishBringup_statusCode (code : StatusCode) : (finishBringup code s).statusCode = some code := rfl
@[simp] theorem finishBringup_result (code : StatusCode) : (finishBringup code s).result = s.result := rfl
@[simp] theorem finishBringup_requests (code : StatusCode) : (finishBringup code s).requests = s.requests := rfl
@[simp] theorem finishBringup_replies (code : StatusCode) : (finishBringup code s).replies = s.replies := rfl
@[simp] theorem finishBringup_trace (code : StatusCode) : (finishBringup code s).trace = s.trace := rfl

/-! ### returnStatus -/

@[simp] theorem returnStatus_params : (returnStatus s).params = s.params := rfl
@[simp] theorem returnStatus_seq : (returnStatus s).seq = .idle := rfl
@[simp] theorem returnStatus_frame : (returnStatus s).frame = s.frame := rfl
@[simp] theorem returnStatus_arg : (returnStatus s).arg = s.arg := rfl
@[simp] theorem returnStatus_frameBuilt : (returnStatus s).frameBuilt = s.frameBuilt := rfl
@[simp] theorem returnStatus_rsp : (returnStatus s).rsp = s.rsp := rfl
@[simp] theorem returnStatus_cs : (returnStatus s).cs = s.cs := rfl
@[simp] theorem returnStatus_crc7Reg : (returnStatus s).crc7Reg = s.crc7Reg := rfl
@[simp] theorem returnStatus_crc16Reg : (returnStatus s).crc16Reg = s.crc16Reg := rfl
@[simp] theorem returnStatus_resetTry : (returnStatus s).resetTry = s.resetTry := rfl
@[simp] theorem returnStatus_round : (returnStatus s).round = s.round := rfl
@[simp] theorem returnStatus_pollCnt : (returnStatus s).pollCnt = s.pollCnt := rfl
@[simp] theorem returnStatus_burstIdx : (returnStatus s).burstIdx = s.burstIdx := rfl
@[simp] theorem returnStatus_shape : (returnStatus s).shape = s.shape := rfl
@[simp] theorem returnStatus_outcome : (returnStatus s).outcome = s.outcome := rfl
@[simp] theorem returnStatus_statusCode : (returnStatus s).statusCode = s.statusCode := rfl
@[simp] theorem returnStatus_result : (returnStatus s).result = s.statusCode.map .status := rfl
@[simp] theorem returnStatus_requests : (returnStatus s).requests = s.requests := rfl
@[simp] theorem returnStatus_replies : (returnStatus s).replies = s.replies := rfl
@[simp] theorem returnStatus_trace : (returnStatus s).trace = s.trace := rfl

/-! ### blockReset -/

@[simp] theorem blockReset_params (f : Frame) (a : ArgBytes) : (blockReset f a s).params = s.params := rfl
@[simp] theorem blockReset_seq (f : Frame) (a : ArgBytes) : (blockReset f a s).seq = .idle := rfl
@[simp] theorem blockReset_frame (f : Frame) (a : ArgBytes) : (blockReset f a s).frame = f := rfl
@[simp] theorem blockReset_arg (f : Frame) (a : ArgBytes) : (blockReset f a s).arg = a := rfl
@[simp] theorem blockReset_frameBuilt (f : Frame) (a : ArgBytes) : (blockReset f a s).frameBuilt = false := rfl
@[simp] theorem blockReset_rsp (f : Frame) (a : ArgBytes) : (blockReset f a s).rsp = Rsp.filled := rfl
@[simp] theorem blockReset_cs (f : Frame) (a : ArgBytes) : (blockReset f a s).cs = .unknown := rfl
@[simp] theorem blockReset_crc7Reg (f : Frame) (a : ArgBytes) : (blockReset f a s).crc7Reg = 0#7 := rfl
@[simp] theorem blockReset_crc16Reg (f : Frame) (a : ArgBytes) : (blockReset f a s).crc16Reg = 0#16 := rfl
@[simp] theorem blockReset_resetTry (f : Frame) (a : ArgBytes) : (blockReset f a s).resetTry = 0 := rfl
@[simp] theorem blockReset_round (f : Frame) (a : ArgBytes) : (blockReset f a s).round = 0 := rfl
@[simp] theorem blockReset_pollCnt (f : Frame) (a : ArgBytes) : (blockReset f a s).pollCnt = 0 := rfl
@[simp] theorem blockReset_burstIdx (f : Frame) (a : ArgBytes) : (blockReset f a s).burstIdx = 0 := rfl
@[simp] theorem blockReset_shape (f : Frame) (a : ArgBytes) : (blockReset f a s).shape = .status := rfl
@[simp] theorem blockReset_outcome (f : Frame) (a : ArgBytes) : (blockReset f a s).outcome = none := rfl
@[simp] theorem blockReset_statusCode (f : Frame) (a : ArgBytes) : (blockReset f a s).statusCode = none := rfl
@[simp] theorem blockReset_result (f : Frame) (a : ArgBytes) : (blockReset f a s).result = none := rfl
@[simp] theorem blockReset_requests (f : Frame) (a : ArgBytes) : (blockReset f a s).requests = s.requests := rfl
@[simp] theorem blockReset_replies (f : Frame) (a : ArgBytes) : (blockReset f a s).replies = s.replies := rfl
@[simp] theorem blockReset_trace (f : Frame) (a : ArgBytes) : (blockReset f a s).trace = s.trace := rfl

end Sys2Proof.Machine
end

