-- ==== Sys2Proof/Laws/Ops.lean ====
section
/-! SUPPORT. For each shared operation, once, everything it can do, and what one step is at each kind of position. -/

namespace Sys2Proof.Machine

/-! ### Shared operations -/

/-- An action waits or takes one reply; it always answers a next state. -/
theorem awaitReply_cases {event : Reply → Event} {goOn : Reply → State → State} {s : State}
    {o : Host.Outcome State Fault Refusal} (h : awaitReply event goOn s = o) :
    (s.replies = [] ∧ o = .next s) ∨
    ∃ r rest, s.replies = r :: rest ∧
      o = .next (goOn r { s with replies := rest, trace := s.trace ++ [event r] }) := by
  unfold awaitReply at h
  split at h
  · next hr => exact .inl ⟨hr, h.symm⟩
  · next r rest hr => exact .inr ⟨r, rest, hr, h.symm⟩

theorem awaitReply_nil {event : Reply → Event} {goOn : Reply → State → State} {s : State} (h : s.replies = []) :
    awaitReply event goOn s = .next s := by
  simp [awaitReply, h]

theorem awaitReply_cons {event : Reply → Event} {goOn : Reply → State → State} {s : State} {r : Reply}
    {rest : List Reply} (h : s.replies = r :: rest) :
    awaitReply event goOn s = .next (goOn r { s with replies := rest, trace := s.trace ++ [event r] }) := by
  simp [awaitReply, h]

theorem accept_idle {run : State → Host.Outcome State Fault Refusal} {s : State} (h : s.seq = .idle) :
    accept run s = run (clearTransient s) := by
  simp [accept, h]

theorem accept_busy {run : State → Host.Outcome State Fault Refusal} {s : State} (h : s.seq ≠ .idle) :
    accept run s = .next s := by
  simp [accept, refuseRequest, h]

/-- Refused in the spec's sense: the state is left as it is (R84). -/
@[simp] theorem refuseRequest_eq (s : State) : refuseRequest s = .next s := rfl

/-- A `BUILD_FRAME` request builds on the idle block and has no effect on a busy one. -/
theorem buildFrameRequest_cases {index : BitVec 8} {arg : Arg32} {s t : State}
    (h : buildFrameRequest index arg s = .next t) :
    (s.seq = .idle ∧
      t = { framerBuild index arg (clearTransient s) with result := some (.frame (buildFrame index arg)) }) ∨
    (s.seq ≠ .idle ∧ t = s) := by
  unfold buildFrameRequest at h
  by_cases hs : s.seq = .idle
  · rw [accept_idle hs] at h
    exact .inl ⟨hs, (Host.Outcome.next.inj h).symm⟩
  · rw [accept_busy hs] at h
    exact .inr ⟨hs, (Host.Outcome.next.inj h).symm⟩

/-- A `SEND_COMMAND` begins its session, or is refused: a reserved shape, no frame built, or a busy block. -/
theorem execSendCommand_cases {code : BitVec 3} {s t : State} (h : execSendCommand code s = .next t) :
    (∃ sh, shapeOfCode code = some sh ∧ s.frameBuilt = true ∧ s.seq = .idle ∧
      t = startSession .host sh (clearTransient s)) ∨
    ((shapeOfCode code = none ∨ s.frameBuilt = false ∨ s.seq ≠ .idle) ∧ t = s) := by
  unfold execSendCommand at h
  split at h
  · next hc => exact .inr ⟨.inl hc, (Host.Outcome.next.inj h).symm⟩
  · next sh hc =>
    split at h
    · next hb =>
      by_cases hs : s.seq = .idle
      · rw [accept_idle hs] at h
        exact .inl ⟨sh, hc, hb, hs, (Host.Outcome.next.inj h).symm⟩
      · rw [accept_busy hs] at h
        exact .inr ⟨.inr (.inr hs), (Host.Outcome.next.inj h).symm⟩
    · next hb => exact .inr ⟨.inr (.inl (by simpa using hb)), (Host.Outcome.next.inj h).symm⟩

/-- A command either begins a session for the caller of the position, or has no effect. -/
theorem issueCommand_cases {index : BitVec 8} {arg : Arg32} {sh : Shape} {s t : State}
    (h : issueCommand index arg sh s = .next t) :
    (∃ c, commandCaller s.seq = some c ∧ t = startSession c sh (buildCommand c index arg s)) ∨
    (commandCaller s.seq = none ∧ t = s) := by
  unfold issueCommand at h
  split at h
  · next c hc => exact .inl ⟨c, hc, (Host.Outcome.next.inj h).symm⟩
  · next hc => exact .inr ⟨hc, (Host.Outcome.next.inj h).symm⟩

/-- A shape code selects on the idle block, begins the poll at the dispatcher, and has no effect elsewhere. -/
theorem dispatchShape_cases {sh : Shape} {s t : State} (h : dispatchShape sh s = .next t) :
    (s.seq = .idle ∧ t = { s with shape := sh }) ∨
    (∃ c, s.seq = .session c .dispatch ∧ t = enterPoll c { s with shape := sh, pollCnt := 0 }) ∨
    (s.seq ≠ .idle ∧ (∀ c, s.seq ≠ .session c .dispatch) ∧ t = s) := by
  unfold dispatchShape at h
  split at h
  · next hs => exact .inl ⟨hs, (Host.Outcome.next.inj h).symm⟩
  · next c hs => exact .inr (.inl ⟨c, hs, (Host.Outcome.next.inj h).symm⟩)
  · next h1 h2 => exact .inr (.inr ⟨h1, h2, (Host.Outcome.next.inj h).symm⟩)

/-- Another poll, or the timeout. -/
theorem enterPoll_cases (c : SessionCaller) (s : State) :
    (s.pollCnt < pollBound s.params s.shape ∧
      enterPoll c s = { s with pollCnt := s.pollCnt + 1, seq := .session c .poll }) ∨
    (pollBound s.params s.shape ≤ s.pollCnt ∧ enterPoll c s = endSession c .timeout s) := by
  unfold enterPoll
  split
  · next h => exact .inl ⟨h, rfl⟩
  · next h => exact .inr ⟨by omega, rfl⟩

/-- Another attempt, or the step left with `ERR_RESET`. -/
theorem nextAttempt_cases (s : State) :
    (s.resetTry < s.params.resetRetryMax ∧ nextAttempt s = goto .resetAttempt s) ∨
    (s.params.resetRetryMax ≤ s.resetTry ∧ nextAttempt s = enterEpilogue .reset (some .errReset) s) := by
  unfold nextAttempt
  split
  · next h => exact .inl ⟨h, rfl⟩
  · next h => exact .inr ⟨by omega, rfl⟩

/-- Another round, or the step left with `ERR_INIT`. -/
theorem nextRound_cases (s : State) :
    (s.round < s.params.handshakeRoundsMax ∧ nextRound s = goto .roundPrefix s) ∨
    (s.params.handshakeRoundsMax ≤ s.round ∧ nextRound s = enterEpilogue .handshake (some .errInit) s) := by
  unfold nextRound
  split
  · next h => exact .inl ⟨h, rfl⟩
  · next h => exact .inr ⟨by omega, rfl⟩

/-- What an ended epilogue leads to. -/
theorem afterEpilogue_cases (st : BringupStep) (r : Reply) (s : State) :
    (∃ code, s.statusCode = some code ∧ afterEpilogue st r s = finishBringup code s) ∨
    (s.statusCode = none ∧ r.fail = true ∧ afterEpilogue st r s = finishBringup .errSendFailed s) ∨
    (s.statusCode = none ∧ r.fail = false ∧ afterEpilogue st r s = nextStep st s) := by
  unfold afterEpilogue
  split
  · next code h => exact .inl ⟨code, h, rfl⟩
  · next h =>
    cases hf : r.fail
    · exact .inr (.inr ⟨h, rfl, by simp⟩)
    · exact .inr (.inl ⟨h, rfl, by simp⟩)

/-! ### The response buffer -/

@[simp] theorem rspArea_length (r : Rsp) (sh : Shape) : (rspArea r sh).length = shapeLength sh := by
  cases sh <;> simp [rspArea, shapeLength]

/-- Writing a byte writes that byte of that area. -/
theorem rspArea_rspWrite_self (r : Rsp) (sh : Shape) (i : Nat) (v : Byte) :
    rspArea (rspWrite r sh i v) sh = (rspArea r sh).set i v := by
  cases sh <;> simp [rspArea, rspWrite]

/-- Writing a byte leaves every other area alone. -/
theorem rspArea_rspWrite_other (r : Rsp) {sh sh' : Shape} (h : sh' ≠ sh) (i : Nat) (v : Byte) :
    rspArea (rspWrite r sh i v) sh' = rspArea r sh' := by
  cases sh <;> cases sh' <;> first | exact absurd rfl h | rfl

@[simp] theorem rspArea_filled (sh : Shape) :
    rspArea Rsp.filled sh = List.replicate (shapeLength sh) Config.idleByte := by
  cases sh <;> rfl

/-! ### One step -/

theorem step_done {s : State} (h : s.seq = .done) : step s = .next (returnStatus s) := by
  simp [step, h]

theorem step_idle_nil {s : State} (h : s.seq = .idle) (hq : s.requests = []) : step s = .next s := by
  simp [step, fetchPacket, h, hq]

theorem step_idle_cons {s : State} {q : HostRequest} {rest : List HostRequest} (h : s.seq = .idle)
    (hq : s.requests = q :: rest) :
    step s = (match decode (requestPacket q) with
      | .ok i => exec i { s with requests := rest }
      | .error e => .refused (.noCommandFrame e)) := by
  cases hd : decode (requestPacket q) <;> simp [step, fetchPacket, h, hq, hd]

/-- What the sequencer issues decodes to itself. -/
theorem decode_encode_issued {s : State} {i : Instr} (h : issuedInstr s = some i) : decode (encode i) = .ok i := by
  unfold issuedInstr at h
  split at h <;> simp only [Option.some.injEq, reduceCtorEq] at h <;> subst h
  case h_9 c p _ =>
    cases p <;> simp only [sessionInstr] <;> first | rfl | (cases s.shape <;> rfl)
  all_goals rfl

/-- A block at work executes what its sequencer issues. -/
theorem step_busy {s : State} {i : Instr} (h : issuedInstr s = some i) : step s = exec i s := by
  have hd := decode_encode_issued h
  have h1 : s.seq ≠ .idle := by intro hs; simp [issuedInstr, hs] at h
  have h2 : s.seq ≠ .done := by intro hs; simp [issuedInstr, hs] at h
  have hf : fetchPacket s = some (encode i, s) := by
    unfold fetchPacket
    split
    · next hs => exact absurd hs h1
    · simp [h]
  unfold step
  split
  · next hs => exact absurd hs h2
  · simp [hf, hd]

/-- Every position but idle and done issues an instruction. -/
theorem issuedInstr_of_busy {s : State} (h1 : s.seq ≠ .idle) (h2 : s.seq ≠ .done) :
    ∃ i, issuedInstr s = some i := by
  unfold issuedInstr
  split <;> simp_all

/-! ### Runs -/

theorem runSteps_zero (s : State) : runSteps 0 s = .next s := rfl

theorem runSteps_succ {n : Nat} {s t : State} (h : step s = .next t) : runSteps (n + 1) s = runSteps n t := by
  have h' : (Sys2Proof.core).step s = .next t := h
  simp only [runSteps, Host.Core.run, h']
  rfl

/-- A run cut in two. -/
theorem runSteps_add {m n : Nat} {s t : State} (h : runSteps m s = .next t) :
    runSteps (m + n) s = runSteps n t := by
  induction m generalizing s with
  | zero =>
    rw [runSteps_zero] at h
    rw [Nat.zero_add, Host.Outcome.next.inj h]
  | succ m ih =>
    cases hs : step s with
    | next u =>
      rw [runSteps_succ hs] at h
      rw [Nat.succ_add, runSteps_succ hs]
      exact ih h
    | fault r => exact nomatch r
    | refused r =>
      have h' : (Sys2Proof.core).step s = .refused r := hs
      simp [runSteps, Host.Core.run, h'] at h

end Sys2Proof.Machine
end

