-- ==== Sys2Proof/Laws/PerInstr.lean ====
section
/-! SUPPORT. Statements made per instruction. Family `RoundTrip`: decoding the packet of an instruction gives the
instruction back. -/

namespace Sys2Proof.Laws.RoundTrip

open Sys2Proof Sys2Proof.Machine

/-- The round trip of one instruction. -/
def Statement (i : Instr) : Prop := decode (encode i) = .ok i

theorem crc7 (bytes : List Byte) : Statement (.crc7 bytes) := rfl
theorem crc16 (bytes : List Byte) : Statement (.crc16 bytes) := rfl
theorem buildFrame (index : BitVec 8) (arg : Arg32) : Statement (.buildFrame index arg) := rfl
theorem sendCommand (shape : BitVec 3) : Statement (.sendCommand shape) := rfl
theorem bringup : Statement .bringup := rfl
theorem opReserved000 : Statement .opReserved000 := rfl
theorem opReserved110 : Statement .opReserved110 := rfl
theorem opReserved111 : Statement .opReserved111 := rfl
theorem shapeStatus : Statement .shapeStatus := rfl
theorem shapeBusy : Statement .shapeBusy := rfl
theorem shapeStatus2 : Statement .shapeStatus2 := rfl
theorem shapeOcr : Statement .shapeOcr := rfl
theorem shapeIfcond : Statement .shapeIfcond := rfl
theorem shapeReserved101 : Statement .shapeReserved101 := rfl
theorem shapeReserved110 : Statement .shapeReserved110 := rfl
theorem shapeReserved111 : Statement .shapeReserved111 := rfl
theorem desel : Statement .desel := rfl
theorem sel : Statement .sel := rfl
theorem xchg (out : Byte) : Statement (.xchg out) := rfl
theorem xmit (bytes : Frame) : Statement (.xmit bytes) := rfl
theorem cmd0 : Statement .cmd0 := by unfold Statement; decide
theorem cmd8 : Statement .cmd8 := by unfold Statement; decide
theorem cmd55 : Statement .cmd55 := by unfold Statement; decide
theorem acmd41 : Statement .acmd41 := by unfold Statement; decide

theorem cmdN (n : BitVec 6) (arg : Arg32) (g : Crc7Value) (shape : BitVec 3) :
    Statement (.cmdN n arg g shape) := by
  simp [Statement, encode, decode, decodeFrame]

end Sys2Proof.Laws.RoundTrip
end

