-- ==== Sys2Proof/Tests/Slice0.lean ====
section
/-! SUPPORT. Small tests, each of one step or one decoding, with results taken from `spec/95_test_vectors.md` or worked
out from the rule named; and for each obligation with hypotheses a witness that they can be met together. -/

namespace Sys2Proof.Tests.Slice0

open Sys2Proof Sys2Proof.Machine

/-! ### Ill-formed terms, one for each check -/

theorem test_index_64_does_not_fit : indexFits (.buildFrame 64#8 0#32) = false := by decide
theorem test_index_63_fits : wellFormed (.buildFrame 63#8 0#32) = true := by decide
theorem test_reserved_shape_is_ill_formed : shapeNotReserved (.sendCommand 0b101#3) = false := by decide
theorem test_reserved_shape_of_cmdN_is_ill_formed : shapeNotReserved (.cmdN 58#6 0#32 0x7E#7 0b111#3) = false := by
  decide
theorem test_wrong_crc_bits_are_ill_formed : crcBitsMatch (.cmdN 58#6 0#32 0x7F#7 3#3) = false := by
  decide +kernel
theorem test_right_crc_bits_are_well_formed : wellFormed (.cmdN 58#6 0#32 0x7E#7 3#3) = true := by
  decide +kernel
theorem test_ill_formed_terms_are_refused :
    wellFormed (.buildFrame 64#8 0#32) = false ∧ wellFormed (.sendCommand 0b101#3) = false ∧
    wellFormed (.cmdN 58#6 0#32 0x7F#7 3#3) = false := by
  decide +kernel

/-! ### Decoding: a word written out for every row (R70, R84 to R86) -/

theorem test_decode_crc7 : decode (.host { zeroLines 0b001#3 with bytes := [0x40#8] }) = .ok (.crc7 [0x40#8]) := by
  decide
theorem test_decode_crc16 : decode (.host { zeroLines 0b010#3 with bytes := [0x40#8] }) = .ok (.crc16 [0x40#8]) := by
  decide
theorem test_decode_build_frame :
    decode (.host { op := 0b011#3, shape := 0#3, index := 41#8, arg := 0x40000000#32, bytes := [] }) =
      .ok (.buildFrame 41#8 0x40000000#32) := by decide
theorem test_decode_send_command :
    decode (.host { op := 0b100#3, shape := 0b011#3, index := 0#8, arg := 0#32, bytes := [] }) =
      .ok (.sendCommand 0b011#3) := by decide
theorem test_decode_bringup : decode (.host (zeroLines 0b101#3)) = .ok .bringup := by decide
theorem test_decode_op_reserved_000 : decode (.host (zeroLines 0b000#3)) = .ok .opReserved000 := by decide
theorem test_decode_op_reserved_110 : decode (.host (zeroLines 0b110#3)) = .ok .opReserved110 := by decide
theorem test_decode_op_reserved_111 : decode (.host (zeroLines 0b111#3)) = .ok .opReserved111 := by decide
theorem test_decode_shape_status : decode (.shape 0b000#3) = .ok .shapeStatus := by decide
theorem test_decode_shape_busy : decode (.shape 0b001#3) = .ok .shapeBusy := by decide
theorem test_decode_shape_status2 : decode (.shape 0b010#3) = .ok .shapeStatus2 := by decide
theorem test_decode_shape_ocr : decode (.shape 0b011#3) = .ok .shapeOcr := by decide
theorem test_decode_shape_ifcond : decode (.shape 0b100#3) = .ok .shapeIfcond := by decide
theorem test_decode_shape_reserved_101 : decode (.shape 0b101#3) = .ok .shapeReserved101 := by decide
theorem test_decode_shape_reserved_110 : decode (.shape 0b110#3) = .ok .shapeReserved110 := by decide
theorem test_decode_shape_reserved_111 : decode (.shape 0b111#3) = .ok .shapeReserved111 := by decide
theorem test_decode_desel : decode (.act 0b00#2 0#8 zeroFrame) = .ok .desel := by decide
theorem test_decode_sel : decode (.act 0b01#2 0#8 zeroFrame) = .ok .sel := by decide
theorem test_decode_xchg : decode (.act 0b10#2 0x5A#8 zeroFrame) = .ok (.xchg 0x5A#8) := by decide
theorem test_decode_xmit : decode (.act 0b11#2 0#8 zeroFrame) = .ok (.xmit zeroFrame) := by decide
theorem test_decode_cmd0 :
    decode (.frame 0b010000000000000000000000000000000000000010010101#48 none) = .ok .cmd0 := by decide
theorem test_decode_cmd8 :
    decode (.frame 0b010010000000000000000000000000011010101010000111#48 none) = .ok .cmd8 := by decide
theorem test_decode_cmd55 :
    decode (.frame 0b011101110000000000000000000000000000000001100101#48 none) = .ok .cmd55 := by decide
theorem test_decode_acmd41 :
    decode (.frame 0b011010010100000000000000000000000000000001110111#48 none) = .ok .acmd41 := by decide
/-- R91: `CMD 41, 0x40000000, OCR` has the word of `ACMD41` and another shape. -/
theorem test_decode_cmd_41_ocr :
    decode (.frame 0b011010010100000000000000000000000000000001110111#48 (some 0b011#3)) =
      .ok (.cmdN 41#6 0x40000000#32 0b0111011#7 0b011#3) := by decide
/-- `7A 12 34 56 78`, CRC bits `1010011`, stop bit (R70): index 58, argument high byte first. -/
theorem test_decode_cmdN :
    decode (.frame 0b011110100001001000110100010101100111100010100111#48 (some 0b011#3)) =
      .ok (.cmdN 58#6 0x12345678#32 0b1010011#7 0b011#3) := by decide
theorem test_decode_no_start_marker : decode (.frame 0x800000000001#48 (some 0#3)) = .error .startMarker := by decide
theorem test_decode_no_stop_marker : decode (.frame 0x400000000094#48 none) = .error .stopMarker := by decide
theorem test_decode_no_shape : decode (.frame 0x7A00000000FD#48 none) = .error .noShape := by decide
theorem test_table_word_of_bringup : decodeTableWord 8 0b101 = some .bringup := by decide
theorem test_table_word_of_cmd8 : decodeTableWord 48 0x48000001AA87 = some .cmd8 := by decide

/-! ### One step on a small state -/

/-- Small bounds; the two legacy statuses are `0x05` and `0x09`, an instance like any other. -/
def params : Params :=
  { resetRetryMax := 2, handshakeRoundsMax := 2, pollMaxStatus := 2, pollMaxOther := 2, preResetIdleBytes := 1,
    resetLegacyA := 5, resetLegacyB := 9 }

/-- The frame of `CMD0` as R74 prints it. -/
def resetFrame : Frame := { b0 := 0x40#8, b1 := 0#8, b2 := 0#8, b3 := 0#8, b4 := 0#8, b5 := 0x95#8 }

/-- A block at a position, with these returns to come, a frame built and the card deselected. -/
def at_ (p : SeqPos) (replies : List Reply) : State :=
  { State.reset with params := params, seq := p, replies := replies, cs := .deselected, frameBuilt := true,
                     frame := resetFrame, arg := { b0 := 0#8, b1 := 0#8, b2 := 0#8, b3 := 0#8 } }

/-- The next state of an outcome, if there is one. -/
def next? (o : Host.Outcome State Fault Refusal) : Option State :=
  match o with
  | .next t => some t
  | _ => none

/-- An answer of the collaborator that fails. -/
def failed : Reply := { fail := true, data := 0#8 }

/-- V1: `CRC7 [40 00 00 00 00] = 4A`. -/
theorem test_crc7_reset_command :
    ((next? (exec (.crc7 [0x40#8, 0#8, 0#8, 0#8, 0#8]) (at_ .idle []))).map (·.result)) =
      some (some (.crc7 0x4A#7)) := by decide +kernel
/-- V1: `CRC7` of the ASCII string "123456789" is `75`. -/
theorem test_crc7_check_string :
    crc7 [0x31#8, 0x32#8, 0x33#8, 0x34#8, 0x35#8, 0x36#8, 0x37#8, 0x38#8, 0x39#8] = 0x75#7 := by decide +kernel
/-- V6: `CRC16 [12 34] = 13C6`. -/
theorem test_crc16_two_bytes :
    ((next? (exec (.crc16 [0x12#8, 0x34#8]) (at_ .idle []))).map (·.result)) = some (some (.crc16 0x13C6#16)) := by
  decide +kernel
/-- V6: `CRC16` of the ASCII string "123456789" is `31C3`. -/
theorem test_crc16_check_string :
    crc16 [0x31#8, 0x32#8, 0x33#8, 0x34#8, 0x35#8, 0x36#8, 0x37#8, 0x38#8, 0x39#8] = 0x31C3#16 := by decide +kernel
/-- V7 and R117: `69 40 00 00 00 77`. -/
theorem test_build_frame_initialization :
    ((next? (exec (.buildFrame 41#8 0x40000000#32) (at_ .idle []))).map fun t => frameBytes t.frame) =
      some [0x69#8, 0x40#8, 0#8, 0#8, 0#8, 0x77#8] := by decide +kernel
/-- R113: an index above 63 is not masked; the CRC is that of the bytes as they are. -/
theorem test_build_frame_index_255 :
    ((buildFrame 0xFF#8 0#32).b0, (buildFrame 0xFF#8 0#32).b5[0]) = (0xFF#8, true) := by decide +kernel
theorem test_send_command_starts :
    ((next? (exec (.sendCommand 0b100#3) (at_ .idle []))).map fun t => (t.seq, t.shape)) =
      some (.session .host .leadIdle, .ifcond) := by decide
theorem test_send_command_reserved_shape :
    next? (exec (.sendCommand 0b110#3) (at_ .idle [])) = some (at_ .idle []) := by decide
theorem test_bringup_starts : ((next? (exec .bringup (at_ .idle []))).map (·.seq)) = some .preDeselect := by decide
theorem test_bringup_busy : next? (exec .bringup (at_ .done [])) = some (at_ .done []) := by decide
/-- R84: no event, no state change, no result. -/
theorem test_op_reserved_refused :
    [Instr.opReserved000, .opReserved110, .opReserved111].map (fun i => next? (exec i (at_ .idle [failed]))) =
      List.replicate 3 (some (at_ .idle [failed])) := by decide
theorem test_shape_reserved_refused :
    [Instr.shapeReserved101, .shapeReserved110, .shapeReserved111].map
      (fun i => next? (exec i (at_ (.session .host .dispatch) []))) =
      List.replicate 3 (some (at_ (.session .host .dispatch) [])) := by decide
/-- R126, R131: the poll begins with `POLL_CNT` at its first attempt. -/
theorem test_shape_codes_start_the_poll :
    [Instr.shapeStatus, .shapeBusy, .shapeStatus2, .shapeOcr, .shapeIfcond].map
      (fun i => (next? (exec i (at_ (.session .host .dispatch) []))).map fun t => (t.seq, t.shape, t.pollCnt)) =
    [Shape.status, .busy, .status2, .ocr, .ifcond].map
      (fun sh => some (.session .host .poll, sh, 1)) := by decide
theorem test_desel_fills_rsp :
    ((next? (exec .desel { at_ (.session .host .deselect) [failed] with
        cs := .selected, rsp := rspWrite Rsp.filled .ocr 2 0x12#8 })).map fun t => (t.cs, t.rsp, t.trace)) =
      some (.deselected, Rsp.filled, [.desel]) := by decide
theorem test_sel_ignores_fail :
    ((next? (exec .sel (at_ (.session .host .select) [failed]))).map fun t => (t.cs, t.seq, t.trace)) =
      some (.selected, .session .host .settleIdle, [.sel]) := by decide
/-- R131, R144: the first byte that is not `0xFF` is the whole one-byte response. -/
theorem test_xchg_ends_the_poll :
    ((next? (exec (.xchg 0xFF#8) (at_ (.session .host .poll) [okReply 0x00#8]))).map fun t =>
      (t.seq, t.result, t.rsp.status[0])) =
      some (.idle, some (.outcome (.response [0x00#8])), 0x00#8) := by decide
theorem test_xchg_fail_goes_to_the_failure_exit :
    ((next? (exec (.xchg 0xFF#8) (at_ (.session .host .poll) [failed]))).map fun t => (t.seq, t.trace)) =
      some (.session .host .failDeselect, [.xchg 0xFF#8 none]) := by decide
theorem test_xmit_sends :
    ((next? (exec (.xmit resetFrame) (at_ (.session .host .sendFrame) [okReply 0#8]))).map fun t =>
      (t.seq, t.trace)) =
      some (.session .host .tailIdle, [.xmit resetFrame true]) := by decide
theorem test_xmit_fails :
    ((next? (exec (.xmit resetFrame) (at_ (.session .host .sendFrame) [failed]))).map fun t => (t.seq, t.trace)) =
      some (.session .host .failDeselect, [.xmit resetFrame false]) := by decide
theorem test_cmd0_frame :
    ((next? (exec .cmd0 (at_ .resetAttempt []))).map fun t => (frameBytes t.frame, t.resetTry)) =
      some ([0x40#8, 0#8, 0#8, 0#8, 0#8, 0x95#8], 1) := by decide
theorem test_cmd8_frame :
    ((next? (exec .cmd8 (at_ .idle []))).map fun t => (frameBytes t.frame, t.shape)) =
      some ([0x48#8, 0#8, 0#8, 0x01#8, 0xAA#8, 0x87#8], .ifcond) := by decide
theorem test_cmd55_frame :
    ((next? (exec .cmd55 (at_ .roundPrefix []))).map fun t => (frameBytes t.frame, t.round)) =
      some ([0x77#8, 0#8, 0#8, 0#8, 0#8, 0x65#8], 1) := by decide
theorem test_acmd41_frame :
    ((next? (exec .acmd41 (at_ .roundInit []))).map fun t => (frameBytes t.frame, t.seq)) =
      some ([0x69#8, 0x40#8, 0#8, 0#8, 0#8, 0x77#8], .session .roundInit .leadIdle) := by decide +kernel
/-- V1: the CRC of `7A 00 00 00 00` is `7E`, packed `FD`, whatever CRC bits the word shows (R118). -/
theorem test_cmdN_frame :
    ((next? (exec (.cmdN 58#6 0#32 0x00#7 0b011#3) (at_ .idle []))).map fun t => (frameBytes t.frame, t.shape)) =
      some ([0x7A#8, 0#8, 0#8, 0#8, 0#8, 0xFD#8], .ocr) := by decide +kernel
/-- R91, R85: with a reserved shape the `BUILD_FRAME` of the pair runs and its `SEND_COMMAND` is refused. -/
theorem test_cmdN_reserved_shape :
    ((next? (exec (.cmdN 58#6 0#32 0x7E#7 0b101#3) (at_ .idle []))).map fun t =>
      (t.seq, frameBytes t.frame, t.result)) =
      some (.idle, [0x7A#8, 0#8, 0#8, 0#8, 0#8, 0xFD#8],
        some (.frame { b0 := 0x7A#8, b1 := 0#8, b2 := 0#8, b3 := 0#8, b4 := 0#8, b5 := 0xFD#8 })) := by decide +kernel
/-- R91: `CMD 41, 0x40000000, OCR` waits for an OCR response. -/
theorem test_cmd_41_ocr :
    ((next? (exec (.cmdN 41#6 0x40000000#32 0x3B#7 0b011#3) (at_ .idle []))).map fun t =>
      (t.seq, frameBytes t.frame, t.shape)) =
      some (.session .host .leadIdle, [0x69#8, 0x40#8, 0#8, 0#8, 0#8, 0x77#8], .ocr) := by decide +kernel
/-- R201, U19: a `SEND_COMMAND` as the first request after reset is taken and refused: no session, no event. -/
theorem test_withFetchWord_runs_send_command :
    ((next? (step (State.reset.withFetchWord 8 0b100))).map fun t => (t.seq, t.requests, t.trace, t.result)) =
      some (.idle, [], [], none) := by decide
theorem test_withFetchWord_runs_cmd0 :
    ((next? (step (State.reset.withFetchWord 48 0x400000000095))).map fun t => (t.seq, frameBytes t.frame)) =
      some (.session .host .leadIdle, [0x40#8, 0#8, 0#8, 0#8, 0#8, 0x95#8]) := by decide

/-! ### Witnesses: the hypotheses of each obligation, met together -/

theorem witness_EncodeKeepsEveryDecodedWord :
    decode (.frame 0x400000000001#48 (some 7#3)) = .ok (.cmdN 0#6 0#32 0#7 7#3) ∧
    decode (.frame 0x7FFFFFFFFFFF#48 (some 0#3)) = .ok (.cmdN 63#6 0xFFFFFFFF#32 0x7F#7 0#3) ∧
    decode (.frame acmd41Word none) = .ok .acmd41 ∧ decode (.shape 7#3) = .ok .shapeReserved111 ∧
    decode (.act 3#2 0xFF#8 zeroFrame) = .ok (.xmit zeroFrame) ∧
    decode (.host { zeroLines 7#3 with index := 0xFF#8 }) = .ok .opReserved111 := by decide

theorem witness_FrameWordNeedsItsMarkers :
    decode (.frame 0xC00000000001#48 none) = .error .startMarker ∧
    decode (.frame 0x3FFFFFFFFFFE#48 (some 0#3)) = .error .startMarker ∧
    decode (.frame 0x7FFFFFFFFFFE#48 (some 0#3)) = .error .stopMarker ∧
    decode (.frame 0x400000000095#48 none) = .ok .cmd0 ∧
    decode (.frame 0x400000000097#48 none) = .error .noShape := by decide

theorem witness_ReservedOperationCodesAreRefused :
    (zeroLines 0b000#3).op = 0b000#3 ∧ (zeroLines 0b110#3).op = 0b110#3 ∧ (zeroLines 0b111#3).op = 0b111#3 := by
  decide

theorem witness_ShapeCodesSelectAndReservedOnesAreRefused :
    5 ≤ (5#3).toNat ∧ 5 ≤ (7#3).toNat := by decide

theorem witness_Crc7HasItsSixProperties :
    [0x12#8, 0x34#8].length = [0xAB#8, 0xCD#8].length ∧ (63#8 : BitVec 8) ≠ 0#8 ∧ (63#8 : BitVec 8) ≠ 8#8 ∧
    (63#8 : BitVec 8) ≠ 55#8 := by decide

theorem witness_Crc16HasItsProperties : [0x12#8, 0x34#8].length = [0xAB#8, 0xCD#8].length := by decide

theorem witness_operations_on_the_idle_block :
    State.reset.seq = .idle ∧ (at_ .idle [okReply 1#8]).seq = .idle := by decide

theorem witness_FrameMeetsItsInvariants : (0#8 : BitVec 8).toNat < 64 ∧ (63#8 : BitVec 8).toNat < 64 := by decide

theorem witness_CmdNBuildsItsFrameAndStarts :
    State.reset.seq = .idle ∧ shapeOfCode 0#3 = some .status ∧ shapeOfCode 4#3 = some .ifcond ∧
    shapeOfCode 5#3 = none ∧ shapeOfCode 7#3 = none ∧
    crcBitsMatch (.cmdN 58#6 0#32 0x7E#7 4#3) = true ∧ crcBitsMatch (.cmdN 58#6 0#32 0x7D#7 4#3) = false := by
  decide +kernel

theorem witness_CommandsOfBringupCountAndStart :
    (at_ .resetAttempt []).seq = .resetAttempt ∧ (at_ .ifcheckCommand []).seq = .ifcheckCommand ∧
    (at_ .roundPrefix []).seq = .roundPrefix ∧ (at_ .roundInit []).seq = .roundInit := by decide

theorem witness_SelSetsChipSelect :
    (at_ .resetSelect [failed]).replies = failed :: [] ∧ (at_ .idle [failed]).replies = failed :: [] ∧
    (at_ .idle [failed]).seq ≠ .resetSelect := by decide

theorem witness_DeselClearsChipSelect :
    (at_ (.session .host .deselect) [failed]).replies = failed :: [] ∧
    (at_ (.session .host .deselect) [failed]).seq = .session .host .deselect ∧
    (at_ (.session .reset .failDeselect) [failed]).replies = failed :: [] ∧
    (∀ c, (at_ .preDeselect []).seq ≠ .session c .deselect) ∧
    (∀ c, (at_ .preDeselect []).seq ≠ .session c .failDeselect) := by
  refine ⟨by decide, by decide, by decide, ?_, ?_⟩ <;> intro c <;> cases c <;> decide

theorem witness_XchgMovesOneByte :
    (at_ (.epilogueIdle .reset) [failed]).replies = failed :: [] ∧ failed.fail = true ∧
    (at_ (.session .host .poll) [okReply 0xFF#8]).replies = okReply 0xFF#8 :: [] ∧
    (∀ c, (at_ (.epilogueIdle .reset) [failed]).seq ≠ .session c .poll ∧
      (at_ (.epilogueIdle .reset) [failed]).seq ≠ .session c .burst) := by
  refine ⟨by decide, by decide, by decide, ?_⟩
  intro c; cases c <;> decide

theorem witness_XmitSendsSixBytes :
    (at_ (.session .ifcheck .sendFrame) [failed]).replies = failed :: [] ∧
    (at_ (.session .ifcheck .sendFrame) [failed]).seq = .session .ifcheck .sendFrame ∧
    (∀ c, (at_ .idle [failed]).seq ≠ .session c .sendFrame) := by
  refine ⟨by decide, by decide, ?_⟩
  intro c; cases c <;> decide

theorem witness_OutstandingActionWaits :
    (at_ .preDeselect []).replies = [] ∧ issuedInstr (at_ .preDeselect []) = some .desel ∧
    isAction .desel = true ∧ issuedInstr (at_ (.session .host .sendFrame) []) = some (.xmit resetFrame) ∧
    isAction (.xmit resetFrame) = true := by decide

theorem witness_SendCommandStartsItsSessionOrIsRefused :
    (at_ .idle []).seq = .idle ∧ shapeOfCode 0#3 = some .status ∧ shapeOfCode 4#3 = some .ifcond ∧
    shapeOfCode 5#3 = none ∧ shapeOfCode 7#3 = none ∧ (at_ .idle []).frameBuilt = true ∧
    State.reset.frameBuilt = false := by decide

theorem witness_SessionOpensWithItsSixActions :
    (at_ (.session .roundInit .leadIdle) [okReply 1#8, failed, okReply 2#8, okReply 4#8, okReply 3#8, failed]).replies =
      okReply 1#8 :: failed :: okReply 2#8 :: okReply 4#8 :: okReply 3#8 :: failed :: [] ∧
    (at_ (.session .roundInit .leadIdle) []).seq = .session .roundInit .leadIdle := by decide

theorem witness_TransportFailureDeselectsAndReturns :
    (at_ (.session .host .sendFrame) [failed, failed]).seq = .session .host .sendFrame ∧ canFail .sendFrame = true ∧
    (at_ (.session .host .sendFrame) [failed, failed]).replies = { fail := true, data := 0#8 } :: failed :: [] ∧
    canFail .leadIdle = true ∧ canFail .burst = true := by decide

theorem witness_SilentPollsTimeOut :
    let s := at_ (.session .host .leadIdle)
      [okReply 1#8, failed, okReply 2#8, okReply 4#8, okReply 3#8, failed, okReply 0xFF#8, okReply 0xFF#8]
    s.seq = .session .host .leadIdle ∧
    s.replies = okReply 1#8 :: failed :: okReply 2#8 :: okReply 4#8 :: okReply 3#8 :: failed ::
      (List.replicate (pollBound s.params s.shape) (okReply Config.idleByte) ++ []) := by decide

theorem witness_SilentPollsTimeOut_with_bound_zero :
    let s := { at_ (.session .host .leadIdle)
        [okReply 1#8, failed, okReply 2#8, okReply 4#8, okReply 3#8, failed] with
      params := { params with pollMaxStatus := 0 } }
    s.seq = .session .host .leadIdle ∧
    s.replies = okReply 1#8 :: failed :: okReply 2#8 :: okReply 4#8 :: okReply 3#8 :: failed ::
      (List.replicate (pollBound s.params s.shape) (okReply Config.idleByte) ++ []) := by decide

/-- The last poll below the bound, and a burst that has `0xFF` in it. -/
theorem witness_AnswerIsReadInFull :
    let s := { at_ (.session .host .leadIdle)
        [okReply 1#8, failed, okReply 2#8, okReply 4#8, okReply 3#8, failed, okReply 0xFF#8, okReply 5#8,
          okReply 0xFF#8] with shape := .status2 }
    s.seq = .session .host .leadIdle ∧ 1 < pollBound s.params s.shape ∧ (5#8 : Byte) ≠ Config.idleByte ∧
    [0xFF#8].length + 1 = shapeLength s.shape ∧
    s.replies = okReply 1#8 :: failed :: okReply 2#8 :: okReply 4#8 :: okReply 3#8 :: failed ::
      (List.replicate 1 (okReply Config.idleByte) ++ okReply 5#8 :: ([0xFF#8].map okReply ++ [])) := by decide

theorem witness_ShapeCodesStartThePoll :
    (at_ (.session .reset .dispatch) []).seq = .session .reset .dispatch ∧ 0 < params.pollMaxOther ∧
    (at_ (.session .host .dispatch) []).seq = .session .host .dispatch ∧
    { params with pollMaxOther := 0 }.pollMaxOther = 0 ∧ (at_ .idle []).seq = .idle ∧
    (at_ .done []).seq ≠ .idle ∧ (∀ c, (at_ .done []).seq ≠ .session c .dispatch) := by
  refine ⟨by decide, by decide, by decide, by decide, by decide, by decide, ?_⟩
  intro c; cases c <;> decide

theorem witness_PreResetSendsItsIdleBytes :
    (at_ .preDeselect [failed, okReply 7#8]).seq = .preDeselect ∧
    [7#8].length = (at_ .preDeselect []).params.preResetIdleBytes ∧
    (at_ .preDeselect [failed, okReply 7#8]).replies = failed :: ([7#8].map okReply ++ []) ∧
    (at_ (.preIdle 0) [failed]).seq = .preIdle 0 ∧
    (at_ (.preIdle 0) [failed]).replies = { fail := true, data := 0#8 } :: [] := by decide

theorem witness_ResetStepBeginsWithSel :
    (at_ .resetSelect [failed]).seq = .resetSelect ∧ (at_ .resetSelect [failed]).replies = failed :: [] ∧
    0 < params.resetRetryMax ∧ { params with resetRetryMax := 0 }.resetRetryMax = 0 := by decide

/-- An accepted byte, a legacy one, and one of neither kind, before and at the last attempt. -/
theorem witness_ResetStatusDecidesTheAttempt :
    let s := at_ (.session .reset .poll) [okReply 1#8]
    s.seq = .session .reset .poll ∧ s.shape = .status ∧ s.replies = okReply 1#8 :: [] ∧ (1#8 : Byte) ≠ 0xFF#8 ∧
    (9#8 : Byte).toNat = s.params.resetLegacyB.val ∧
    ¬((4#8 : Byte) = 0x01#8 ∨ (4#8 : Byte).toNat = s.params.resetLegacyA.val ∨
      (4#8 : Byte).toNat = s.params.resetLegacyB.val) ∧
    { s with resetTry := 1 }.resetTry < s.params.resetRetryMax ∧
    s.params.resetRetryMax ≤ { s with resetTry := 2 }.resetTry := by decide

theorem witness_IfcheckResponseDecidesTheVerdict :
    let s := { at_ (.session .ifcheck .burst) [okReply 0xAA#8] with
      shape := .ifcond, burstIdx := 4, rsp := { Rsp.filled with ifcond := #v[1#8, 2#8, 3#8, 1#8, 0xFF#8] } }
    s.seq = .session .ifcheck .burst ∧ s.shape = .ifcond ∧ s.burstIdx = 4 ∧
    rspArea s.rsp .ifcond = [1#8, 2#8, 3#8, 1#8, 0xFF#8] ∧ s.replies = okReply 0xAA#8 :: [] ∧
    ((1#8 : Byte) = 0x01#8 ∧ (1#8 : Byte) = 0x01#8 ∧ (0xAA#8 : Byte) = 0xAA#8) ∧
    ¬((1#8 : Byte) = 0x01#8 ∧ (1#8 : Byte) = 0x01#8 ∧ (0xAB#8 : Byte) = 0xAA#8) := by decide

theorem witness_PrefixStatusDecidesTheRound :
    let s := { at_ (.session .roundPrefix .poll) [okReply 1#8] with round := 2 }
    s.seq = .session .roundPrefix .poll ∧ s.shape = .status ∧ s.replies = okReply 1#8 :: [] ∧
    (1#8 : Byte) ≠ 0xFF#8 ∧ (0#8 : Byte) ≠ 0x01#8 ∧ s.params.handshakeRoundsMax ≤ s.round ∧
    { s with round := 1 }.round < s.params.handshakeRoundsMax := by decide

theorem witness_InitStatusDecidesTheHandshake :
    let s := { at_ (.session .roundInit .poll) [okReply 0#8] with round := 2 }
    s.seq = .session .roundInit .poll ∧ s.shape = .status ∧ s.replies = okReply 0#8 :: [] ∧
    (0#8 : Byte) ≠ 0xFF#8 ∧ (1#8 : Byte) ≠ 0x00#8 ∧ s.params.handshakeRoundsMax ≤ s.round ∧
    { s with round := 1 }.round < s.params.handshakeRoundsMax := by decide

theorem witness_TimeoutCountsAsUnacceptable :
    let s := { at_ (.session .reset .poll) [okReply 0xFF#8] with pollCnt := 2, resetTry := 2, round := 2 }
    s.seq = .session .reset .poll ∧ pollBound s.params s.shape ≤ s.pollCnt ∧
    s.replies.head? = some (okReply 0xFF#8) ∧
    s.params.resetRetryMax ≤ s.resetTry ∧ { s with resetTry := 1 }.resetTry < s.params.resetRetryMax ∧
    s.params.handshakeRoundsMax ≤ s.round ∧ { s with round := 1 }.round < s.params.handshakeRoundsMax := by decide

theorem witness_TimeoutCountsAsUnacceptable_with_bound_zero :
    let s := { at_ (.session .ifcheck .dispatch) [] with
      params := { params with pollMaxOther := 0 }, shape := .ifcond }
    s.seq = .session .ifcheck .dispatch ∧ pollBound s.params s.shape = 0 := by decide

theorem witness_TransportFailureLeavesTheStep :
    let s := at_ (.session .roundInit .burst) [failed, okReply 0#8]
    s.seq = .session .roundInit .burst ∧ callerStep .roundInit = some .handshake ∧ canFail .burst = true ∧
    s.replies = { fail := true, data := 0#8 } :: okReply 0#8 :: [] ∧ callerStep .reset = some .reset ∧
    callerStep .ifcheck = some .ifcheck ∧ callerStep .roundPrefix = some .handshake := by decide

theorem witness_EpilogueDeselectsAndDecides :
    let s := at_ (.epilogueDeselect .ifcheck) [failed, failed]
    s.seq = .epilogueDeselect .ifcheck ∧ s.replies = failed :: failed :: [] ∧ s.statusCode = none ∧
    failed.fail = true ∧ (okReply 0#8).fail = false ∧ 0 < s.params.handshakeRoundsMax ∧
    { s.params with handshakeRoundsMax := 0 }.handshakeRoundsMax = 0 ∧
    { s with statusCode := some .errIfcheck }.statusCode = some .errIfcheck := by decide

theorem witness_DoneReturnsTheCode :
    { at_ .done [] with statusCode := some .errInit }.seq = .done ∧
    { at_ .done [] with statusCode := some .errInit }.statusCode = some .errInit := by decide

theorem witness_StatusCodesAreDistinct : statusByte .errInit = statusByte .errInit := by decide

theorem witness_StepRunsTheDecodedInstruction :
    let s := { at_ .idle [] with requests := [.command acmd41Word none, .command 0#48 none] }
    s.seq = .idle ∧ s.requests = .command acmd41Word none :: [.command 0#48 none] ∧
    decode (requestPacket (.command acmd41Word none)) = .ok .acmd41 ∧
    decode (requestPacket (.command 0#48 none)) = .error .startMarker ∧ (at_ .idle []).requests = [] ∧
    issuedInstr (at_ .roundInit []) = some .acmd41 := by decide

theorem witness_BusyBlockAcceptsNoRequest :
    (at_ .done []).seq ≠ .idle ∧ next? (step (at_ .done [])) = some { at_ .done [] with seq := .idle } ∧
    commandCaller (at_ (.session .reset .poll) []).seq = none ∧ commandCaller (at_ .preDeselect []).seq = none := by
  decide

theorem witness_next_states :
    next? (exec .bringup (at_ .idle [])) = some (at_ .preDeselect []) ∧
    next? (step (at_ .preDeselect [okReply 0#8])) =
      some { at_ (.preIdle 0) [] with trace := [.desel] } := by decide

theorem witness_EachBufferHasItsWriters :
    next? (exec .sel (at_ (.session .host .select) [okReply 0#8])) =
      some { at_ (.session .host .settleIdle) [] with cs := .selected, trace := [.sel] } ∧
    buildsFrame .sel = false ∧ Instr.crc7 [] ≠ .sel ∧ Instr.crc7 [] ≠ .desel := by decide

theorem witness_HostReadsOnlyTheIdleBlock :
    (at_ .done []).seq ≠ .idle ∧ (at_ .idle []).seq = .idle ∧ (at_ .idle []).frameBuilt = true ∧
    State.reset.frameBuilt = false ∧ State.reset.seq = .idle ∧ byteSpecified (.status 0) State.reset = true ∧
    byteSpecified (.ifcond 4) State.reset = true := by decide

/-! Witnesses that the invariant can be met where it is a hypothesis. -/

/-- The block at rest with a frame built meets the invariant. -/
theorem at_idle_inv : State.Inv (at_ .idle []) := by
  refine ⟨fun _ => by decide, trivial, by decide, by decide, by decide, ?_⟩
  intro h; exact absurd h (by decide)

theorem resetFrame_stop : resetFrame.b5[0] = true := by decide

theorem at_preDeselect_inv (l : List Reply) : State.Inv (at_ .preDeselect l) :=
  ⟨fun _ => ⟨rfl, resetFrame_stop⟩, trivial, Nat.zero_le _, Nat.zero_le _, rfl⟩

theorem witness_StepKeepsTheInvariant :
    State.Inv (at_ .preDeselect [okReply 0#8]) ∧
    next? (step (at_ .preDeselect [okReply 0#8])) = some { at_ (.preIdle 0) [] with trace := [.desel] } :=
  ⟨at_preDeselect_inv _, by decide⟩

/-- A poll of a session of the reset step. -/
def polling (cnt : Nat) (b : Byte) : State :=
  { at_ (.session .host .poll) [okReply b] with pollCnt := cnt }

theorem polling_inv (b : Byte) : State.Inv (polling 2 b) :=
  ⟨fun _ => ⟨rfl, resetFrame_stop⟩, trivial, Nat.zero_le _, Nat.zero_le _, rfl, rfl, rfl, rfl, rfl,
    Nat.le_succ 1, Nat.le_refl 2⟩

/-- A session that ends with a response, and one that ends with a timeout. -/
theorem witness_OnlyTheLiveAreaHoldsAResponse :
    State.Inv (polling 2 1#8) ∧ (polling 2 1#8).outcome = none ∧
    ((next? (step (polling 2 1#8))).map (·.outcome)) = some (some (.response [1#8])) ∧
    State.Inv (polling 2 0xFF#8) ∧
    ((next? (step (polling 2 0xFF#8))).map (·.outcome)) = some (some .timeout) :=
  ⟨polling_inv _, rfl, by decide, polling_inv _, by decide⟩

/-- The trailing idle byte of the last epilogue, after a failed handshake. -/
theorem witness_BringupEndsDeselected_in_an_epilogue :
    let s := { at_ (.epilogueIdle .handshake) [failed] with statusCode := some .errInit }
    State.Inv s ∧ ((next? (step s)).map (·.seq)) = some .done :=
  ⟨⟨fun _ => by decide, trivial, Nat.zero_le _, Nat.zero_le _, rfl, by decide, fun _ h => absurd h (by decide)⟩,
    by decide⟩

theorem witness_CoarseStatesFollowTheirTable_and_BringupEndsDeselected :
    let s := at_ (.preIdle 0) [failed]
    State.Inv s ∧ ((next? (step s)).map (·.seq)) = some .done :=
  ⟨⟨fun _ => by decide, trivial, Nat.zero_le _, Nat.zero_le _, rfl, rfl, by decide⟩, by decide⟩

/-- The block about to return `OK`: the last session was the initialization command, answered `0x00`. -/
def ready : State :=
  { at_ .done [] with
    frame := buildFrame 41#8 Config.acmd41Arg, arg := frameArg (buildFrame 41#8 Config.acmd41Arg),
    rsp := { Rsp.filled with status := #v[0x00#8] }, outcome := some (.response [Config.readyStatus]),
    statusCode := some .ok }

theorem ready_inv : State.Inv ready := by
  refine ⟨fun _ => by decide +kernel, ⟨by decide, by decide, ?_⟩, Nat.zero_le _, Nat.zero_le _, rfl, by decide,
    fun _ => ⟨rfl, rfl, rfl, rfl⟩⟩
  intro sh h
  cases sh
  · exact absurd rfl h
  all_goals decide

theorem witness_AfterOkTheBufferShowsReady :
    State.Inv ready ∧ ready.seq = .done ∧ ready.statusCode = some .ok ∧
    ((next? (step ready)).map (·.result)) = some (some (.status .ok)) :=
  ⟨ready_inv, rfl, rfl, by decide⟩

theorem witness_ByteTimesAreSpentFromTheBound :
    State.Inv (polling 2 1#8) ∧ (polling 2 1#8).seq ≠ .idle ∧ (next? (step (polling 2 1#8))).isSome = true ∧
    (at_ (.session .host .leadIdle) []).seq = .session .host .leadIdle ∧ defaultBounds Params.default :=
  ⟨polling_inv _, by decide, by decide, by decide, ⟨rfl, rfl, rfl, rfl, rfl⟩⟩

theorem witness_BringupSpendsAtMost1049ByteTimes :
    State.Inv State.reset ∧ State.reset.seq = .idle ∧ State.reset.requests = [] ∧ defaultBounds State.reset.params ∧
    exec .bringup State.reset = .next (goto .preDeselect State.reset) ∧
    runSteps 1 (goto .preDeselect State.reset) = .next (goto .preDeselect State.reset) := by
  refine ⟨⟨fun h => absurd h (by decide), trivial, Nat.zero_le _, Nat.zero_le _, by decide, ?_⟩, rfl, rfl,
    ⟨rfl, rfl, rfl, rfl, rfl⟩, rfl, rfl⟩
  intro h; exact absurd h (by decide)

theorem witness_BusyStepComesCloserToTheEnd :
    State.Inv (polling 2 1#8) ∧ (polling 2 1#8).seq ≠ .idle ∧ (polling 2 1#8).replies ≠ [] :=
  ⟨polling_inv _, by decide, by decide⟩

theorem witness_EveryOperationEndsIfActionsReturn :
    State.Inv (at_ .preDeselect (List.replicate 100 failed)) ∧
    (at_ .preDeselect (List.replicate 100 failed)).seq ≠ .idle ∧
    stepsLeft (at_ .preDeselect (List.replicate 100 failed)) ≤ 100 ∧
    (at_ .preDeselect (List.replicate 100 failed)).replies.length = 100 :=
  ⟨at_preDeselect_inv _, by decide, by decide, by simp [at_]⟩

/-- A session that ends, here in the failure exit, and one whose first action never returns. -/
theorem witness_SessionMeetsItsPseudocode :
    let s := at_ (.session .host .leadIdle) [failed, okReply 0#8]
    s.seq = .session .host .leadIdle ∧ ((sessionRun s.shape s).map (·.1)) = some .transportFailure ∧
    sessionRun .status (at_ (.session .host .leadIdle) []) = none := by decide

/-- A `BRINGUP` that ends, here at its first idle byte, and one whose first action never returns. -/
theorem witness_BringupMeetsItsPseudocode :
    let s := at_ .preDeselect [okReply 0#8, failed]
    s.seq = .preDeselect ∧ ((bringupRun s).map (·.1)) = some .errSendFailed ∧
    bringupRun (at_ .preDeselect []) = none := by decide

/-- Two blocks with different pasts. -/
theorem witness_BringupDependsOnlyOnRepliesAndParameters :
    let s1 := at_ .idle [failed]
    let s2 := { at_ .idle [failed] with cs := .unknown, round := 7, frameBuilt := false, result := some (.status .ok) }
    s1.seq = .idle ∧ s2.seq = .idle ∧ s1.params = s2.params ∧ s1.replies = s2.replies ∧ s1.requests = [] ∧
    s2.requests = [] ∧ ((next? (exec .bringup s1)).map (·.seq)) = some .preDeselect ∧
    ((next? (exec .bringup s2)).map (·.seq)) = some .preDeselect := by decide

end Sys2Proof.Tests.Slice0
end

/-! Scope: what a step can do, what the sequencer and every instruction leave unchanged, and the state after reset. -/

namespace Sys2Proof.Machine

/-! ### What a step can do -/

/-- A step returns the code at `DONE`, waits on the idle block, executes the host's next request, or executes what the
sequencer issues. -/
theorem step_cases {s t : State} (h : step s = .next t) :
    (s.seq = .done ∧ t = returnStatus s) ∨
    (s.seq = .idle ∧ s.requests = [] ∧ t = s) ∨
    (∃ q rest i, s.seq = .idle ∧ s.requests = q :: rest ∧ decode (requestPacket q) = .ok i ∧
      exec i { s with requests := rest } = .next t) ∨
    (∃ i, issuedInstr s = some i ∧ exec i s = .next t) := by
  by_cases hd : s.seq = .done
  · rw [step_done hd] at h
    exact .inl ⟨hd, (Host.Outcome.next.inj h).symm⟩
  by_cases hi : s.seq = .idle
  · cases hq : s.requests with
    | nil =>
      rw [step_idle_nil hi hq] at h
      exact .inr (.inl ⟨hi, rfl, (Host.Outcome.next.inj h).symm⟩)
    | cons q rest =>
      rw [step_idle_cons hi hq] at h
      cases hdec : decode (requestPacket q) with
      | ok i =>
        rw [hdec] at h
        exact .inr (.inr (.inl ⟨q, rest, i, hi, rfl, hdec, h⟩))
      | error e =>
        rw [hdec] at h
        exact nomatch h
  · obtain ⟨i, hiss⟩ := issuedInstr_of_busy hi hd
    rw [step_busy hiss] at h
    exact .inr (.inr (.inr ⟨i, hiss, h⟩))

/-! ### Where the sequencer only moves on

Most of the sequencer writes `SEQ` and the verdict and nothing else. -/

/-- `t` is `s` with another position and perhaps another verdict. -/
def Moves (s t : State) : Prop := ∃ p v, t = { s with seq := p, statusCode := v }

theorem Moves.refl (s : State) : Moves s s := ⟨_, _, rfl⟩

theorem goto_moves (p : SeqPos) (s : State) : Moves s (goto p s) := ⟨_, _, rfl⟩

theorem failSession_moves (c : SessionCaller) (s : State) : Moves s (failSession c s) := ⟨_, _, rfl⟩

theorem enterEpilogue_moves (st : BringupStep) (v : Option StatusCode) (s : State) :
    Moves s (enterEpilogue st v s) := ⟨_, _, rfl⟩

theorem finishBringup_moves (code : StatusCode) (s : State) : Moves s (finishBringup code s) := ⟨_, _, rfl⟩

theorem preIdleNext_moves (sent : Nat) (s : State) : Moves s (preIdleNext sent s) := by
  unfold preIdleNext
  split
  · exact goto_moves _ s
  · exact goto_moves _ s

theorem nextAttempt_moves (s : State) : Moves s (nextAttempt s) := by
  obtain ⟨-, h⟩ | ⟨-, h⟩ := nextAttempt_cases s
  · exact h ▸ goto_moves _ s
  · exact h ▸ enterEpilogue_moves _ _ s

theorem nextRound_moves (s : State) : Moves s (nextRound s) := by
  obtain ⟨-, h⟩ | ⟨-, h⟩ := nextRound_cases s
  · exact h ▸ goto_moves _ s
  · exact h ▸ enterEpilogue_moves _ _ s

theorem sessionGoOn_moves (c : SessionCaller) (p : SessionPos) (r : Reply) (s : State) :
    Moves s (sessionGoOn c p r s) := by
  unfold sessionGoOn
  split
  · exact failSession_moves c s
  · exact goto_moves _ s

theorem afterReset_moves (o : SessionOutcome) (s : State) : Moves s (afterReset o s) := by
  cases o with
  | transportFailure => exact enterEpilogue_moves _ _ s
  | timeout => exact nextAttempt_moves s
  | response bytes =>
    simp only [afterReset]
    split
    · exact enterEpilogue_moves _ _ s
    · exact nextAttempt_moves s

theorem afterPrefix_moves (o : SessionOutcome) (s : State) : Moves s (afterPrefix o s) := by
  cases o with
  | transportFailure => exact enterEpilogue_moves _ _ s
  | timeout => exact nextRound_moves s
  | response bytes =>
    simp only [afterPrefix]
    split
    · exact goto_moves _ s
    · exact nextRound_moves s

theorem afterInit_moves (o : SessionOutcome) (s : State) : Moves s (afterInit o s) := by
  cases o with
  | transportFailure => exact enterEpilogue_moves _ _ s
  | timeout => exact nextRound_moves s
  | response bytes =>
    simp only [afterInit]
    split
    · exact enterEpilogue_moves _ _ s
    · exact nextRound_moves s

/-- A session that ends records its outcome, perhaps as the host's result, and the block moves on. -/
theorem endSession_moves (c : SessionCaller) (o : SessionOutcome) (s : State) :
    ∃ res, Moves { s with outcome := some o, result := res } (endSession c o s) := by
  cases c with
  | host => exact ⟨some (.outcome o), .idle, s.statusCode, rfl⟩
  | reset => exact ⟨s.result, afterReset_moves o _⟩
  | ifcheck => exact ⟨s.result, enterEpilogue_moves _ _ _⟩
  | roundPrefix => exact ⟨s.result, afterPrefix_moves o _⟩
  | roundInit => exact ⟨s.result, afterInit_moves o _⟩

/-- The next step begins; only the entry to the handshake writes a counter, `ROUND` (R32). -/
theorem nextStep_moves (st : BringupStep) (s : State) : ∃ n, Moves { s with round := n } (nextStep st s) := by
  cases st with
  | reset => exact ⟨s.round, goto_moves _ s⟩
  | ifcheck => exact ⟨0, nextRound_moves _⟩
  | handshake => exact ⟨s.round, finishBringup_moves _ s⟩

theorem afterEpilogue_moves (st : BringupStep) (r : Reply) (s : State) :
    ∃ n, Moves { s with round := n } (afterEpilogue st r s) := by
  obtain ⟨code, -, h⟩ | ⟨-, -, h⟩ | ⟨-, -, h⟩ := afterEpilogue_cases st r s
  · exact ⟨s.round, h ▸ finishBringup_moves code s⟩
  · exact ⟨s.round, h ▸ finishBringup_moves _ s⟩
  · exact h ▸ nextStep_moves st s

/-! ### What the sequencer never writes -/

/-- What no continuation of an action writes; `RESET_TRY` is written only by the entry to step 2, after its `SEL`
(R31, R152). -/
structure SequencerKept (s t : State) : Prop where
  buffers : buffersKept s t
  cs : t.cs = s.cs
  shape : t.shape = s.shape
  resetTry : t.resetTry = s.resetTry
  replies : t.replies = s.replies
  trace : t.trace = s.trace

theorem Moves.kept {s t : State} (h : Moves s t) : SequencerKept s t := by
  obtain ⟨p, v, rfl⟩ := h
  exact ⟨⟨rfl, rfl, rfl, rfl, rfl, rfl, rfl⟩, rfl, rfl, rfl, rfl, rfl⟩

/-- The relation reads none of the fields the sequencer writes, so they may be changed first. -/
theorem SequencerKept.of_update {s t : State} {rsp : Rsp} {rd pc bi : Nat} {o : Option SessionOutcome}
    {res : Option HostResult}
    (h : SequencerKept
      { s with rsp := rsp, round := rd, pollCnt := pc, burstIdx := bi, outcome := o, result := res } t) :
    SequencerKept s t := ⟨h.buffers, h.cs, h.shape, h.resetTry, h.replies, h.trace⟩

theorem endSession_kept (c : SessionCaller) (o : SessionOutcome) (s : State) : SequencerKept s (endSession c o s) := by
  obtain ⟨res, h⟩ := endSession_moves c o s
  exact SequencerKept.of_update h.kept

theorem enterPoll_kept (c : SessionCaller) (s : State) : SequencerKept s (enterPoll c s) := by
  obtain ⟨-, h⟩ | ⟨-, h⟩ := enterPoll_cases c s
  · rw [h]
    exact SequencerKept.of_update (goto_moves (.session c .poll) { s with pollCnt := s.pollCnt + 1 }).kept
  · exact h ▸ endSession_kept c .timeout s

/-- A byte is stored and the session returns its response. -/
theorem respond_storeByte_kept (c : SessionCaller) (i : Nat) (v : Byte) (s : State) :
    SequencerKept s (respond c (storeByte i v s)) :=
  SequencerKept.of_update (endSession_kept c _ (storeByte i v s))

theorem afterPoll_kept (c : SessionCaller) (r : Reply) (s : State) : SequencerKept s (afterPoll c r s) := by
  unfold afterPoll
  split
  · exact (failSession_moves c s).kept
  split
  · exact enterPoll_kept c s
  split
  · exact respond_storeByte_kept c 0 r.data s
  · exact SequencerKept.of_update (goto_moves (.session c .burst) { storeByte 0 r.data s with burstIdx := 1 }).kept

theorem afterBurst_kept (c : SessionCaller) (r : Reply) (s : State) : SequencerKept s (afterBurst c r s) := by
  unfold afterBurst
  split
  · exact (failSession_moves c s).kept
  split
  · exact SequencerKept.of_update (Moves.refl _).kept
  · exact respond_storeByte_kept c s.burstIdx r.data s

/-- After an `XCHG` that failed, or at a place where no response is read, the block only moves on. -/
theorem afterXchg_moves {r : Reply} {s : State}
    (h : r.fail = true ∨ ∀ c, s.seq ≠ .session c .poll ∧ s.seq ≠ .session c .burst) :
    ∃ n, Moves { s with round := n } (afterXchg r s) := by
  unfold afterXchg
  split
  next sent _ =>
    split
    · exact ⟨s.round, finishBringup_moves _ s⟩
    · exact ⟨s.round, preIdleNext_moves _ s⟩
  next c _ => exact ⟨s.round, sessionGoOn_moves c _ r s⟩
  next c _ => exact ⟨s.round, sessionGoOn_moves c _ r s⟩
  next c _ => exact ⟨s.round, sessionGoOn_moves c _ r s⟩
  next c hs =>
    have hf : r.fail = true := h.resolve_right fun hn => (hn c).1 hs
    exact ⟨s.round, by simpa [afterPoll, hf] using failSession_moves c s⟩
  next c hs =>
    have hf : r.fail = true := h.resolve_right fun hn => (hn c).2 hs
    exact ⟨s.round, by simpa [afterBurst, hf] using failSession_moves c s⟩
  next st _ => exact afterEpilogue_moves st r s
  next => exact ⟨s.round, Moves.refl s⟩

theorem afterXchg_kept (r : Reply) (s : State) : SequencerKept s (afterXchg r s) := by
  by_cases hp : ∃ c, s.seq = .session c .poll
  · obtain ⟨c, hs⟩ := hp
    simpa [afterXchg, hs] using afterPoll_kept c r s
  by_cases hb : ∃ c, s.seq = .session c .burst
  · obtain ⟨c, hs⟩ := hb
    simpa [afterXchg, hs] using afterBurst_kept c r s
  obtain ⟨n, h⟩ := afterXchg_moves (r := r) (.inr fun c => ⟨fun hs => hp ⟨c, hs⟩, fun hs => hb ⟨c, hs⟩⟩)
  exact SequencerKept.of_update h.kept

theorem afterXmit_sendFrame {s : State} {c : SessionCaller} (r : Reply) (h : s.seq = .session c .sendFrame) :
    afterXmit r s = goto (.session c (if r.fail = true then .failDeselect else .tailIdle)) s := by
  unfold afterXmit
  rw [h]
  cases hf : r.fail <;> simp [sessionGoOn, failSession, hf]

theorem afterXmit_elsewhere {s : State} (r : Reply) (h : ∀ c, s.seq ≠ .session c .sendFrame) :
    afterXmit r s = s := by
  unfold afterXmit
  split
  · next c hs => exact absurd hs (h c)
  · rfl

theorem afterXmit_moves (r : Reply) (s : State) : Moves s (afterXmit r s) := by
  unfold afterXmit
  split
  · exact sessionGoOn_moves _ _ r s
  · exact Moves.refl s

/-- After a `SEL` the block only moves on, but for `RESET_TRY` on the entry to step 2. -/
theorem afterSel_moves (s : State) : ∃ n, Moves { s with resetTry := n } (afterSel s) := by
  unfold afterSel
  split
  · exact ⟨0, nextAttempt_moves _⟩
  · exact ⟨s.resetTry, goto_moves _ s⟩
  · exact ⟨s.resetTry, Moves.refl s⟩

theorem afterDesel_kept (s : State) : SequencerKept s (afterDesel s) := by
  unfold afterDesel
  split
  · exact (preIdleNext_moves 0 s).kept
  · next c _ => exact SequencerKept.of_update (goto_moves (.session c .dispatch) (fillRsp s)).kept
  · next c _ => exact endSession_kept c _ s
  · exact (goto_moves _ s).kept
  · exact (Moves.refl s).kept

/-! ### Parameters and ports -/

/-- The parameters are the same, no request and no return was taken, and no event was issued. -/
structure PortsKept (s t : State) : Prop where
  params : t.params = s.params
  requests : t.requests = s.requests
  replies : t.replies = s.replies
  trace : t.trace = s.trace

theorem PortsKept.refl (s : State) : PortsKept s s := ⟨rfl, rfl, rfl, rfl⟩

theorem PortsKept.trans {s u t : State} (h : PortsKept s u) (h' : PortsKept u t) : PortsKept s t :=
  ⟨h'.params.trans h.params, h'.requests.trans h.requests, h'.replies.trans h.replies, h'.trace.trans h.trace⟩

theorem SequencerKept.ports {s t : State} (h : SequencerKept s t) : PortsKept s t := by
  obtain ⟨hparams, -, -, -, -, -, hrequests⟩ := h.buffers
  exact ⟨hparams, hrequests, h.replies, h.trace⟩

theorem accept_portsKept {run : State → Host.Outcome State Fault Refusal} {s t : State}
    (h : accept run s = .next t) (hrun : ∀ u v, run u = .next v → PortsKept u v) : PortsKept s t := by
  by_cases hs : s.seq = .idle
  · rw [accept_idle hs] at h
    refine .trans ?_ (hrun _ _ h)
    exact ⟨rfl, rfl, rfl, rfl⟩
  · rw [accept_busy hs] at h
    exact Host.Outcome.next.inj h ▸ PortsKept.refl s

theorem execCrc7_portsKept {bytes : List Byte} {s t : State} (h : execCrc7 bytes s = .next t) : PortsKept s t :=
  accept_portsKept h fun _ _ hrun => Host.Outcome.next.inj hrun ▸ ⟨rfl, rfl, rfl, rfl⟩

theorem execCrc16_portsKept {bytes : List Byte} {s t : State} (h : execCrc16 bytes s = .next t) : PortsKept s t :=
  accept_portsKept h fun _ _ hrun => Host.Outcome.next.inj hrun ▸ ⟨rfl, rfl, rfl, rfl⟩

theorem execBringup_portsKept {s t : State} (h : execBringup s = .next t) : PortsKept s t :=
  accept_portsKept h fun _ _ hrun => Host.Outcome.next.inj hrun ▸ ⟨rfl, rfl, rfl, rfl⟩

theorem buildFrameRequest_portsKept {index : BitVec 8} {arg : Arg32} {s t : State}
    (h : buildFrameRequest index arg s = .next t) : PortsKept s t := by
  obtain ⟨-, rfl⟩ | ⟨-, rfl⟩ := buildFrameRequest_cases h
  · exact ⟨rfl, rfl, rfl, rfl⟩
  · exact PortsKept.refl _

theorem execSendCommand_portsKept {code : BitVec 3} {s t : State} (h : execSendCommand code s = .next t) :
    PortsKept s t := by
  obtain ⟨sh, -, -, -, rfl⟩ | ⟨-, rfl⟩ := execSendCommand_cases h
  · exact ⟨rfl, rfl, rfl, rfl⟩
  · exact PortsKept.refl _

theorem buildCommand_portsKept (c : SessionCaller) (index : BitVec 8) (arg : Arg32) (s : State) :
    PortsKept s (buildCommand c index arg s) := by
  cases c <;> exact ⟨rfl, rfl, rfl, rfl⟩

theorem issueCommand_portsKept {index : BitVec 8} {arg : Arg32} {sh : Shape} {s t : State}
    (h : issueCommand index arg sh s = .next t) : PortsKept s t := by
  obtain ⟨c, -, rfl⟩ | ⟨-, rfl⟩ := issueCommand_cases h
  · exact (buildCommand_portsKept c index arg s).trans ⟨rfl, rfl, rfl, rfl⟩
  · exact PortsKept.refl _

theorem execCmdN_portsKept {n : BitVec 6} {arg : Arg32} {code : BitVec 3} {s t : State}
    (h : execCmdN n arg code s = .next t) : PortsKept s t := by
  unfold execCmdN at h
  split at h
  · exact issueCommand_portsKept h
  · exact buildFrameRequest_portsKept h

theorem dispatchShape_portsKept {sh : Shape} {s t : State} (h : dispatchShape sh s = .next t) : PortsKept s t := by
  obtain ⟨-, rfl⟩ | ⟨c, -, rfl⟩ | ⟨-, -, rfl⟩ := dispatchShape_cases h
  · exact ⟨rfl, rfl, rfl, rfl⟩
  · refine .trans ?_ (enterPoll_kept c { s with shape := sh, pollCnt := 0 }).ports
    exact ⟨rfl, rfl, rfl, rfl⟩
  · exact PortsKept.refl _

/-- The ports are kept, or one return of the collaborator is taken and one event recorded for it. -/
def AtMostOneEvent (s t : State) : Prop :=
  PortsKept s t ∨
  ∃ e r rest, s.replies = r :: rest ∧ PortsKept { s with replies := rest, trace := s.trace ++ [e] } t

theorem AtMostOneEvent.params {s t : State} (h : AtMostOneEvent s t) : t.params = s.params := by
  obtain h | ⟨_, _, _, _, h⟩ := h
  · exact h.params
  · exact h.params

/-- A transport action issues one event for one return, if what follows it keeps the ports. -/
theorem awaitReply_atMostOneEvent {event : Reply → Event} {goOn : Reply → State → State} {s t : State}
    (hgo : ∀ r u, PortsKept u (goOn r u)) (h : awaitReply event goOn s = .next t) : AtMostOneEvent s t := by
  obtain ⟨-, ht⟩ | ⟨r, rest, hr, ht⟩ := awaitReply_cases h
  · exact .inl (Host.Outcome.next.inj ht ▸ PortsKept.refl s)
  · exact .inr ⟨event r, r, rest, hr, Host.Outcome.next.inj ht ▸ hgo r _⟩

theorem execSel_atMostOneEvent {s t : State} (h : execSel s = .next t) : AtMostOneEvent s t := by
  refine awaitReply_atMostOneEvent (fun r u => ?_) h
  obtain ⟨n, hm⟩ := afterSel_moves (setCs .selected u)
  refine .trans ?_ hm.kept.ports
  exact ⟨rfl, rfl, rfl, rfl⟩

theorem execDesel_atMostOneEvent {s t : State} (h : execDesel s = .next t) : AtMostOneEvent s t := by
  refine awaitReply_atMostOneEvent (fun r u => ?_) h
  refine .trans ?_ (afterDesel_kept (setCs .deselected u)).ports
  exact ⟨rfl, rfl, rfl, rfl⟩

/-- Every instruction writes no parameter, takes no request, and issues at most one event, for one return. -/
theorem exec_atMostOneEvent {i : Instr} {s t : State} (h : exec i s = .next t) : AtMostOneEvent s t := by
  cases i with
  | crc7 _ => exact .inl (execCrc7_portsKept h)
  | crc16 _ => exact .inl (execCrc16_portsKept h)
  | bringup => exact .inl (execBringup_portsKept h)
  | buildFrame _ _ => exact .inl (buildFrameRequest_portsKept h)
  | sendCommand _ => exact .inl (execSendCommand_portsKept h)
  | opReserved000 | opReserved110 | opReserved111 | shapeReserved101 | shapeReserved110 | shapeReserved111 =>
    exact .inl (Host.Outcome.next.inj h ▸ PortsKept.refl s)
  | shapeStatus | shapeBusy | shapeStatus2 | shapeOcr | shapeIfcond => exact .inl (dispatchShape_portsKept h)
  | sel => exact execSel_atMostOneEvent h
  | desel => exact execDesel_atMostOneEvent h
  | xchg _ => exact awaitReply_atMostOneEvent (fun r u => (afterXchg_kept r u).ports) h
  | xmit _ => exact awaitReply_atMostOneEvent (fun r u => (afterXmit_moves r u).kept.ports) h
  | cmd0 | cmd8 | cmd55 | acmd41 => exact .inl (issueCommand_portsKept h)
  | cmdN _ _ _ _ => exact .inl (execCmdN_portsKept h)

/-- A step executes at most one instruction; only it can touch the ports, but for the request that was taken. -/
theorem step_atMostOneEvent {s t : State} (h : step s = .next t) :
    ∃ rest, AtMostOneEvent { s with requests := rest } t := by
  obtain ⟨-, rfl⟩ | ⟨-, -, rfl⟩ | ⟨_, rest, i, -, -, -, hi⟩ | ⟨i, -, hi⟩ := step_cases h
  · exact ⟨s.requests, .inl ⟨rfl, rfl, rfl, rfl⟩⟩
  · exact ⟨t.requests, .inl (PortsKept.refl t)⟩
  · exact ⟨rest, exec_atMostOneEvent hi⟩
  · exact ⟨s.requests, exec_atMostOneEvent hi⟩

/-! ### Reset -/

/-- Reset meets the invariant from any state: the clauses that bind ask for a built frame, an outcome or a result, and
there is none (R200, R201). -/
theorem blockReset_inv (f : Frame) (a : ArgBytes) (s : State) : State.Inv (blockReset f a s) := by
  refine ⟨fun hbuilt => absurd hbuilt Bool.false_ne_true, trivial, Nat.zero_le _, Nat.zero_le _, ?_⟩
  exact ⟨(nomatch ·), (nomatch ·)⟩

/-! ### The obligations -/

/-- Settles O20: what follows an `XCHG` is the sequencer's, which keeps the buffers and `CS`, and only moves on when the
byte failed or no response is read. -/
theorem xchgMovesOneByte : Obligations.XchgMovesOneByte := by
  intro out s r rest hr
  let u : State := { s with replies := rest, trace := s.trace ++ [xchgEvent out r] }
  obtain ⟨hbuf, hcs, hshape, htry, hrep, htrace⟩ := afterXchg_kept r u
  refine ⟨afterXchg r u, awaitReply_cons hr, htrace, hrep, hcs, hbuf, hshape, htry, fun helse => ?_, fun hfail => ?_⟩
  · obtain ⟨n, p, v, h⟩ := afterXchg_moves (r := r) (s := u) (.inr helse)
    rw [h]
    exact ⟨rfl, rfl, rfl, rfl, rfl⟩
  · obtain ⟨n, p, v, h⟩ := afterXchg_moves (s := u) (.inl hfail)
    rw [h]

/-- Settles O21: by whether the session is at its `XMIT`; elsewhere nothing follows the action. -/
theorem xmitSendsSixBytes : Obligations.XmitSendsSixBytes := by
  intro f s r rest hr
  let u : State := { s with replies := rest, trace := s.trace ++ [xmitEvent f r] }
  refine ⟨afterXmit r u, awaitReply_cons hr, ?_, fun c hs => ?_, fun helse => ?_⟩
  · by_cases hs : ∃ c, s.seq = .session c .sendFrame
    · obtain ⟨c, hs⟩ := hs
      rw [afterXmit_sendFrame (s := u) r hs]
      rfl
    · rw [afterXmit_elsewhere (s := u) r (not_exists.mp hs)]
      rfl
  · rw [afterXmit_sendFrame (s := u) r hs, goto_seq]
  · rw [afterXmit_elsewhere (s := u) r helse]

/-- Settles O43: a step is an instruction, the return at `DONE` or nothing, and no instruction writes a parameter. -/
theorem parametersNeverChange : Obligations.ParametersNeverChange := by
  refine ⟨fun i s t h => (exec_atMostOneEvent h).params, fun s t h => ?_, fun f a s => blockReset_params s f a⟩
  obtain ⟨rest, hstep⟩ := step_atMostOneEvent h
  exact hstep.params

/-- Settles O44: the one instruction of a step keeps the ports, or takes one return and records one event. -/
theorem eachEventTakesOneReply : Obligations.EachEventTakesOneReply := by
  intro s t h
  obtain ⟨_, hkept | ⟨e, r, rest, hr, hkept⟩⟩ := step_atMostOneEvent h
  · exact .inl ⟨hkept.trace, hkept.replies⟩
  · exact .inr ⟨e, r, hkept.trace, hkept.replies ▸ hr⟩

/-- Settles O47: each field of a reset state is the one named; the fourteen bytes of `RSP` area by area. -/
theorem resetStateIsAsSpecified : Obligations.ResetStateIsAsSpecified := by
  refine ⟨⟨rfl, fun sh => rspArea_filled sh, rfl, rfl, rfl, rfl, rfl, ⟨rfl, rfl, rfl, rfl, rfl⟩⟩, fun f a s => ?_⟩
  exact ⟨rfl, rfl, rfl, rfl, rfl, rfl, rfl, blockReset_inv f a s⟩

end Sys2Proof.Machine

/-! Scope: what one step is at each position of the sequencer. -/

namespace Sys2Proof.Machine

variable {s t : State} {c : SessionCaller}

/-- The rule that goes on after an action may use that the position is still the one that issued it. -/
theorem awaitReply_congr {event : Reply → Event} {goOn goOn' : Reply → State → State}
    (h : ∀ r u, u.seq = s.seq → goOn r u = goOn' r u) : awaitReply event goOn s = awaitReply event goOn' s := by
  cases hr : s.replies with
  | nil => rw [awaitReply_nil hr, awaitReply_nil hr]
  | cons r rest =>
    rw [awaitReply_cons hr, awaitReply_cons hr]
    exact congrArg _ (h r _ rfl)

theorem exec_sel_cons {r : Reply} {rest : List Reply} (h : s.replies = r :: rest) :
    exec .sel s = .next (afterSel (setCs .selected { s with replies := rest, trace := s.trace ++ [.sel] })) := by
  rw [exec, execSel, awaitReply_cons h]

theorem exec_desel_cons {r : Reply} {rest : List Reply} (h : s.replies = r :: rest) :
    exec .desel s =
      .next (afterDesel (setCs .deselected { s with replies := rest, trace := s.trace ++ [.desel] })) := by
  rw [exec, execDesel, awaitReply_cons h]

/-! ### The four actions and the commands -/

theorem step_of_sel {goOn : State → State} (hi : issuedInstr s = some .sel)
    (h : ∀ u : State, u.seq = s.seq → afterSel (setCs .selected u) = goOn u) :
    step s = awaitReply (fun _ => .sel) (fun _ u => goOn u) s :=
  (step_busy hi).trans (awaitReply_congr fun _ u hu => h u hu)

theorem step_of_desel {goOn : State → State} (hi : issuedInstr s = some .desel)
    (h : ∀ u : State, u.seq = s.seq → afterDesel (setCs .deselected u) = goOn u) :
    step s = awaitReply (fun _ => .desel) (fun _ u => goOn u) s :=
  (step_busy hi).trans (awaitReply_congr fun _ u hu => h u hu)

theorem step_of_xchg {goOn : Reply → State → State} {out : Byte} (hi : issuedInstr s = some (.xchg out))
    (h : ∀ (r : Reply) (u : State), u.seq = s.seq → afterXchg r u = goOn r u) :
    step s = awaitReply (xchgEvent out) goOn s :=
  (step_busy hi).trans (awaitReply_congr h)

theorem step_of_xmit {goOn : Reply → State → State} {f : Frame} (hi : issuedInstr s = some (.xmit f))
    (h : ∀ (r : Reply) (u : State), u.seq = s.seq → afterXmit r u = goOn r u) :
    step s = awaitReply (xmitEvent f) goOn s :=
  (step_busy hi).trans (awaitReply_congr h)

theorem issueCommand_of_caller {index : BitVec 8} {arg : Arg32} {sh : Shape} (hc : commandCaller s.seq = some c) :
    issueCommand index arg sh s = .next (startSession c sh (buildCommand c index arg s)) := by
  simp [issueCommand, hc]

theorem step_of_command {i : Instr} {index : BitVec 8} {arg : Arg32} {sh : Shape} (hi : issuedInstr s = some i)
    (hc : commandCaller s.seq = some c) (hexec : exec i s = issueCommand index arg sh s) :
    step s = .next (startSession c sh (buildCommand c index arg s)) :=
  (step_busy hi).trans (hexec.trans (issueCommand_of_caller hc))

/-! ### BRINGUP -/

theorem step_preDeselect (hs : s.seq = .preDeselect) :
    step s = awaitReply (fun _ => .desel) (fun _ u => preIdleNext 0 (setCs .deselected u)) s :=
  step_of_desel (by simp [issuedInstr, hs]) fun u hu => by simp [afterDesel, hu, hs]

theorem step_preIdle {sent : Nat} (hs : s.seq = .preIdle sent) :
    step s = awaitReply (xchgEvent Config.idleByte)
      (fun r u => if r.fail then finishBringup .errSendFailed u else preIdleNext (sent + 1) u) s :=
  step_of_xchg (by simp [issuedInstr, hs]) fun _ u hu => by simp [afterXchg, hu, hs]

theorem step_resetSelect (hs : s.seq = .resetSelect) :
    step s = awaitReply (fun _ => .sel) (fun _ u => enterReset (setCs .selected u)) s :=
  step_of_sel (by simp [issuedInstr, hs]) fun u hu => by simp [afterSel, hu, hs]

theorem step_resetAttempt (hs : s.seq = .resetAttempt) :
    step s = .next (startSession .reset .status
      (framerBuild 0#8 Config.cmd0Arg { s with resetTry := s.resetTry + 1 })) :=
  step_of_command (i := .cmd0) (by simp [issuedInstr, hs]) (by simp [commandCaller, hs]) rfl

theorem step_ifcheckCommand (hs : s.seq = .ifcheckCommand) :
    step s = .next (startSession .ifcheck .ifcond (framerBuild 8#8 Config.cmd8Arg s)) :=
  step_of_command (i := .cmd8) (by simp [issuedInstr, hs]) (by simp [commandCaller, hs]) rfl

theorem step_roundPrefix (hs : s.seq = .roundPrefix) :
    step s = .next (startSession .roundPrefix .status
      (framerBuild 55#8 Config.cmd55Arg { s with round := s.round + 1 })) :=
  step_of_command (i := .cmd55) (by simp [issuedInstr, hs]) (by simp [commandCaller, hs]) rfl

theorem step_roundInit (hs : s.seq = .roundInit) :
    step s = .next (startSession .roundInit .status (framerBuild 41#8 Config.acmd41Arg s)) :=
  step_of_command (i := .acmd41) (by simp [issuedInstr, hs]) (by simp [commandCaller, hs]) rfl

theorem step_epilogueDeselect {st : BringupStep} (hs : s.seq = .epilogueDeselect st) :
    step s = awaitReply (fun _ => .desel) (fun _ u => goto (.epilogueIdle st) (setCs .deselected u)) s :=
  step_of_desel (by simp [issuedInstr, hs]) fun u hu => by simp [afterDesel, hu, hs]

theorem step_epilogueIdle {st : BringupStep} (hs : s.seq = .epilogueIdle st) :
    step s = awaitReply (xchgEvent Config.idleByte) (afterEpilogue st) s :=
  step_of_xchg (by simp [issuedInstr, hs]) fun _ u hu => by simp [afterXchg, hu, hs]

/-! ### Inside a session -/

theorem step_leadIdle (hs : s.seq = .session c .leadIdle) :
    step s = awaitReply (xchgEvent Config.idleByte) (sessionGoOn c .select) s :=
  step_of_xchg (by simp [issuedInstr, hs, sessionInstr]) fun _ u hu => by simp [afterXchg, hu, hs]

theorem step_select (hs : s.seq = .session c .select) :
    step s = awaitReply (fun _ => .sel) (fun _ u => goto (.session c .settleIdle) (setCs .selected u)) s :=
  step_of_sel (by simp [issuedInstr, hs, sessionInstr]) fun u hu => by simp [afterSel, hu, hs]

theorem step_settleIdle (hs : s.seq = .session c .settleIdle) :
    step s = awaitReply (xchgEvent Config.idleByte) (sessionGoOn c .sendFrame) s :=
  step_of_xchg (by simp [issuedInstr, hs, sessionInstr]) fun _ u hu => by simp [afterXchg, hu, hs]

theorem step_sendFrame (hs : s.seq = .session c .sendFrame) :
    step s = awaitReply (xmitEvent s.frame) (sessionGoOn c .tailIdle) s :=
  step_of_xmit (by simp [issuedInstr, hs, sessionInstr]) fun _ u hu => by simp [afterXmit, hu, hs]

theorem step_tailIdle (hs : s.seq = .session c .tailIdle) :
    step s = awaitReply (xchgEvent Config.idleByte) (sessionGoOn c .deselect) s :=
  step_of_xchg (by simp [issuedInstr, hs, sessionInstr]) fun _ u hu => by simp [afterXchg, hu, hs]

theorem step_deselect (hs : s.seq = .session c .deselect) :
    step s = awaitReply (fun _ => .desel)
      (fun _ u => goto (.session c .dispatch) (fillRsp (setCs .deselected u))) s :=
  step_of_desel (by simp [issuedInstr, hs, sessionInstr]) fun u hu => by simp [afterDesel, hu, hs]

/-- The table's row of a shape gives that shape to the dispatcher (R85, R140). -/
theorem exec_shapeInstr (sh : Shape) (s : State) : exec (shapeInstr sh) s = dispatchShape sh s := by
  cases sh <;> rfl

theorem step_dispatch (hs : s.seq = .session c .dispatch) :
    step s = .next (enterPoll c { s with pollCnt := 0 }) := by
  rw [step_busy (i := shapeInstr s.shape) (by simp [issuedInstr, hs, sessionInstr]), exec_shapeInstr]
  simp [dispatchShape, hs]

theorem step_poll (hs : s.seq = .session c .poll) :
    step s = awaitReply (xchgEvent Config.idleByte) (afterPoll c) s :=
  step_of_xchg (by simp [issuedInstr, hs, sessionInstr]) fun _ u hu => by simp [afterXchg, hu, hs]

theorem step_burst (hs : s.seq = .session c .burst) :
    step s = awaitReply (xchgEvent Config.idleByte) (afterBurst c) s :=
  step_of_xchg (by simp [issuedInstr, hs, sessionInstr]) fun _ u hu => by simp [afterXchg, hu, hs]

theorem step_failDeselect (hs : s.seq = .session c .failDeselect) :
    step s = awaitReply (fun _ => .desel)
      (fun _ u => endSession c .transportFailure (setCs .deselected u)) s :=
  step_of_desel (by simp [issuedInstr, hs, sessionInstr]) fun u hu => by simp [afterDesel, hu, hs]

/-! ### The operations on the idle block

An operation the idle block accepts begins with the transient state re-initialised (R41). -/

theorem exec_crc7_idle (bytes : List Byte) (hs : s.seq = .idle) :
    exec (.crc7 bytes) s =
      .next { clearTransient s with crc7Reg := crc7 bytes, result := some (.crc7 (crc7 bytes)) } := by
  rw [exec, execCrc7, accept_idle hs]

theorem exec_crc16_idle (bytes : List Byte) (hs : s.seq = .idle) :
    exec (.crc16 bytes) s =
      .next { clearTransient s with crc16Reg := crc16 bytes, result := some (.crc16 (crc16 bytes)) } := by
  rw [exec, execCrc16, accept_idle hs]

theorem exec_buildFrame_idle (index : BitVec 8) (arg : Arg32) (hs : s.seq = .idle) :
    exec (.buildFrame index arg) s =
      .next { framerBuild index arg (clearTransient s) with result := some (.frame (buildFrame index arg)) } := by
  rw [exec, execBuildFrame, buildFrameRequest, accept_idle hs]

theorem exec_sendCommand_idle {code : BitVec 3} {sh : Shape} (hs : s.seq = .idle)
    (hc : shapeOfCode code = some sh) (hb : s.frameBuilt = true) :
    exec (.sendCommand code) s = .next (startSession .host sh (clearTransient s)) := by
  simp only [exec, execSendCommand, hc, hb, if_true, accept_idle hs]

theorem exec_sendCommand_reserved {code : BitVec 3} (s : State) (hc : shapeOfCode code = none) :
    exec (.sendCommand code) s = .next s := by
  simp only [exec, execSendCommand, hc, refuseRequest]

theorem exec_bringup_idle (hs : s.seq = .idle) :
    exec .bringup s = .next (goto .preDeselect (clearTransient s)) := by
  rw [exec, execBringup, accept_idle hs]

theorem issueCommand_idle {index : BitVec 8} {arg : Arg32} {sh : Shape} (hs : s.seq = .idle) :
    issueCommand index arg sh s =
      .next (startSession .host sh (clearTransient (framerBuild index arg s))) :=
  issueCommand_of_caller (c := .host) (by rw [hs]; rfl)

/-! ### What the caller of a session goes on with -/

/-- An answer that does not end the loop: no response, or one that is not accepted (R164, R166). -/
def unaccepted (accepts : List Byte → Bool) (o : SessionOutcome) : Prop :=
  o = .timeout ∨ ∃ bytes, o = .response bytes ∧ accepts bytes = false

/-- Step 2 is left with a failure, left with an accepted status, or goes to its loop head (R153, R164). -/
theorem afterReset_cases (o : SessionOutcome) (s : State) :
    (o = .transportFailure ∧ afterReset o s = enterEpilogue .reset (some .errSendFailed) s) ∨
    (∃ bytes, o = .response bytes ∧ resetAccepted s.params bytes = true ∧
      afterReset o s = enterEpilogue .reset none s) ∨
    (unaccepted (resetAccepted s.params) o ∧ afterReset o s = nextAttempt s) := by
  cases o with
  | transportFailure => exact .inl ⟨rfl, rfl⟩
  | timeout => exact .inr (.inr ⟨.inl rfl, rfl⟩)
  | response bytes =>
    cases hacc : resetAccepted s.params bytes with
    | true => exact .inr (.inl ⟨bytes, rfl, hacc, by simp [afterReset, hacc]⟩)
    | false => exact .inr (.inr ⟨.inr ⟨bytes, rfl, hacc⟩, by simp [afterReset, hacc]⟩)

/-- After the prefix step 4 is left with a failure, or sends the initialization command, or goes to its loop head
(R160, R164). -/
theorem afterPrefix_cases (o : SessionOutcome) (s : State) :
    (o = .transportFailure ∧ afterPrefix o s = enterEpilogue .handshake (some .errSendFailed) s) ∨
    (∃ bytes, o = .response bytes ∧ prefixAccepted bytes = true ∧ afterPrefix o s = goto .roundInit s) ∨
    (unaccepted prefixAccepted o ∧ afterPrefix o s = nextRound s) := by
  cases o with
  | transportFailure => exact .inl ⟨rfl, rfl⟩
  | timeout => exact .inr (.inr ⟨.inl rfl, rfl⟩)
  | response bytes =>
    cases hacc : prefixAccepted bytes with
    | true => exact .inr (.inl ⟨bytes, rfl, hacc, by simp [afterPrefix, hacc]⟩)
    | false => exact .inr (.inr ⟨.inr ⟨bytes, rfl, hacc⟩, by simp [afterPrefix, hacc]⟩)

/-- After the initialization command step 4 is left with a failure, left with a ready status, or goes to its loop
head (R161, R164). -/
theorem afterInit_cases (o : SessionOutcome) (s : State) :
    (o = .transportFailure ∧ afterInit o s = enterEpilogue .handshake (some .errSendFailed) s) ∨
    (o = .response [Config.readyStatus] ∧ afterInit o s = enterEpilogue .handshake none s) ∨
    (unaccepted initReady o ∧ afterInit o s = nextRound s) := by
  cases o with
  | transportFailure => exact .inl ⟨rfl, rfl⟩
  | timeout => exact .inr (.inr ⟨.inl rfl, rfl⟩)
  | response bytes =>
    cases hacc : initReady bytes with
    | true =>
      obtain rfl : bytes = [Config.readyStatus] := by simpa [initReady] using hacc
      exact .inr (.inl ⟨rfl, by simp [afterInit, hacc]⟩)
    | false => exact .inr (.inr ⟨.inr ⟨bytes, rfl, hacc⟩, by simp [afterInit, hacc]⟩)

/-! ### Where the block moves to -/

theorem nextAttempt_not_session (s : State) (c : SessionCaller) (p : SessionPos) :
    (nextAttempt s).seq ≠ .session c p := by
  obtain ⟨-, h⟩ | ⟨-, h⟩ := nextAttempt_cases s <;> rw [h] <;> exact nofun

theorem nextRound_not_session (s : State) (c : SessionCaller) (p : SessionPos) :
    (nextRound s).seq ≠ .session c p := by
  obtain ⟨-, h⟩ | ⟨-, h⟩ := nextRound_cases s <;> rw [h] <;> exact nofun

/-- An ended session leads out of every session. -/
theorem endSession_not_session (c : SessionCaller) (o : SessionOutcome) (s : State) (c' : SessionCaller)
    (p : SessionPos) : (endSession c o s).seq ≠ .session c' p := by
  cases c with
  | host => exact nofun
  | ifcheck => exact nofun
  | reset =>
    obtain ⟨-, h⟩ | ⟨_, -, -, h⟩ | ⟨-, h⟩ := afterReset_cases o { s with outcome := some o } <;> rw [endSession, h]
    · exact nofun
    · exact nofun
    · exact nextAttempt_not_session _ c' p
  | roundPrefix =>
    obtain ⟨-, h⟩ | ⟨_, -, -, h⟩ | ⟨-, h⟩ := afterPrefix_cases o { s with outcome := some o } <;> rw [endSession, h]
    · exact nofun
    · exact nofun
    · exact nextRound_not_session _ c' p
  | roundInit =>
    obtain ⟨-, h⟩ | ⟨-, h⟩ | ⟨-, h⟩ := afterInit_cases o { s with outcome := some o } <;> rw [endSession, h]
    · exact nofun
    · exact nofun
    · exact nextRound_not_session _ c' p

theorem preIdleNext_not_session (sent : Nat) (s : State) (c : SessionCaller) (p : SessionPos) :
    (preIdleNext sent s).seq ≠ .session c p := by
  unfold preIdleNext
  split <;> exact nofun

theorem afterEpilogue_not_session (st : BringupStep) (r : Reply) (s : State) (c : SessionCaller) (p : SessionPos) :
    (afterEpilogue st r s).seq ≠ .session c p := by
  obtain ⟨code, -, h⟩ | ⟨-, -, h⟩ | ⟨-, -, h⟩ := afterEpilogue_cases st r s <;> rw [h]
  · exact nofun
  · exact nofun
  · cases st with
    | reset => exact nofun
    | ifcheck => exact nextRound_not_session _ c p
    | handshake => exact nofun

end Sys2Proof.Machine

/-! Scope: every step keeps the invariant, position by position of the sequencer. -/

namespace Sys2Proof.Machine

variable {s t : State} {c : SessionCaller} {p : SessionPos}

/-! ### The invariant in its parts -/

/-- What the invariant says of the buffers and the counters, at every position. -/
def contentsInv (s : State) : Prop :=
  frameInv s ∧ liveArea s ∧ s.resetTry ≤ s.params.resetRetryMax ∧ s.round ≤ s.params.handshakeRoundsMax

theorem inv_iff : State.Inv s ↔ contentsInv s ∧ seqInv s := by
  simp only [State.Inv, contentsInv, and_assoc]

/-- What holds of a session at every one of its positions. -/
def sessionInv (c : SessionCaller) (s : State) : Prop :=
  s.statusCode = none ∧ s.outcome = none ∧ sessionCallerInv c s

theorem seqInv_session (h : s.seq = .session c p) : seqInv s ↔ sessionInv c s ∧ sessionPosInv p s := by
  simp only [seqInv, h, sessionInv, and_assoc]

theorem sessionInv.outcome_none (h : sessionInv c s) : s.outcome = none := by
  obtain ⟨-, ho, -⟩ := h
  exact ho

theorem contentsInv.moves (h : contentsInv s) (hm : Moves s t) : contentsInv t := by
  obtain ⟨p, v, rfl⟩ := hm
  exact h

theorem contentsInv.setOutcome {o : SessionOutcome} (h : contentsInv s)
    (hlive : liveArea { s with outcome := some o }) : contentsInv { s with outcome := some o } := by
  obtain ⟨hframe, -, htry, hround⟩ := h
  exact ⟨hframe, hlive, htry, hround⟩

/-- `RSP` is free while there is no outcome (R25). -/
theorem contentsInv.setRsp {r : Rsp} (h : contentsInv s) (ho : s.outcome = none) :
    contentsInv { s with rsp := r } := by
  obtain ⟨hframe, -, htry, hround⟩ := h
  exact ⟨hframe, by simp [liveArea, ho], htry, hround⟩

/-! ### Frames -/

/-- The CRC byte ends in the stop bit, literal or computed (R22, R73). -/
theorem frameCrcByte_stopBit (index : BitVec 8) (arg : Arg32) : (frameCrcByte index arg)[0] = true := by
  unfold frameCrcByte fixedCrcByte
  split_ifs
  · exact (by decide : Config.cmd0CrcByte[0] = true)
  · exact (by decide : Config.cmd8CrcByte[0] = true)
  · exact (by decide : Config.cmd55CrcByte[0] = true)
  · simp [packCrc]

theorem frameInv_of_built {index : BitVec 8} {arg : Arg32} (hf : s.frame = buildFrame index arg)
    (ha : s.arg = frameArg (buildFrame index arg)) : frameInv s := fun _ =>
  ⟨by rw [ha, hf], by rw [hf]; exact frameCrcByte_stopBit index arg⟩

/-! ### Loops and the end of a session -/

theorem nextAttempt_inv (h : contentsInv s) (hcode : s.statusCode = none) : State.Inv (nextAttempt s) := by
  refine inv_iff.mpr ⟨h.moves (nextAttempt_moves s), ?_⟩
  obtain ⟨hlt, heq⟩ | ⟨-, heq⟩ := nextAttempt_cases s <;> rw [heq]
  · exact ⟨hcode, hlt⟩
  · exact ⟨by simp [stepVerdicts], nofun⟩

theorem nextRound_inv (h : contentsInv s) (hcs : s.cs = .deselected) (hcode : s.statusCode = none) :
    State.Inv (nextRound s) := by
  refine inv_iff.mpr ⟨h.moves (nextRound_moves s), ?_⟩
  obtain ⟨hlt, heq⟩ | ⟨-, heq⟩ := nextRound_cases s <;> rw [heq]
  · exact ⟨hcs, hcode, hlt⟩
  · exact ⟨by simp [stepVerdicts], nofun⟩

/-- A step is left with one of its own verdicts (R165); without one the handshake has seen a ready status (R161). -/
theorem enterEpilogue_inv {st : BringupStep} {v : Option StatusCode} (h : contentsInv s) (hv : v ∈ stepVerdicts st)
    (hready : st = .handshake → v = none → readySeen s) : State.Inv (enterEpilogue st v s) :=
  inv_iff.mpr ⟨h.moves (enterEpilogue_moves st v s), hv, hready⟩

theorem ifcheckVerdict_mem (o : SessionOutcome) : ifcheckVerdict o ∈ stepVerdicts .ifcheck := by
  cases o with
  | response bytes => unfold ifcheckVerdict; split <;> simp [stepVerdicts]
  | timeout => simp [ifcheckVerdict, stepVerdicts]
  | transportFailure => simp [ifcheckVerdict, stepVerdicts]

theorem afterReset_inv (o : SessionOutcome) (h : contentsInv s) (hcode : s.statusCode = none) :
    State.Inv (afterReset o s) := by
  obtain ⟨-, heq⟩ | ⟨_, -, -, heq⟩ | ⟨-, heq⟩ := afterReset_cases o s <;> rw [heq]
  · exact enterEpilogue_inv h (by simp [stepVerdicts]) nofun
  · exact enterEpilogue_inv h (by simp [stepVerdicts]) nofun
  · exact nextAttempt_inv h hcode

theorem afterPrefix_inv (o : SessionOutcome) (h : contentsInv s) (hcs : s.cs = .deselected)
    (hcode : s.statusCode = none) (hround : 1 ≤ s.round) : State.Inv (afterPrefix o s) := by
  obtain ⟨-, heq⟩ | ⟨_, -, -, heq⟩ | ⟨-, heq⟩ := afterPrefix_cases o s <;> rw [heq]
  · exact enterEpilogue_inv h (by simp [stepVerdicts]) nofun
  · exact inv_iff.mpr ⟨h.moves (goto_moves _ s), hcs, hcode, hround⟩
  · exact nextRound_inv h hcs hcode

/-- The initialization command succeeds only with exactly the ready status, which is what `readySeen` asks (R161). -/
theorem afterInit_inv (o : SessionOutcome) (h : contentsInv s) (hcs : s.cs = .deselected)
    (hcode : s.statusCode = none) (hcaller : sessionCallerInv .roundInit s) (ho : s.outcome = some o) :
    State.Inv (afterInit o s) := by
  obtain ⟨-, heq⟩ | ⟨rfl, heq⟩ | ⟨-, heq⟩ := afterInit_cases o s <;> rw [heq]
  · exact enterEpilogue_inv h (by simp [stepVerdicts]) nofun
  · obtain ⟨hbuilt, hframe, hshape, -⟩ := hcaller
    exact enterEpilogue_inv h (by simp [stepVerdicts]) fun _ _ => ⟨hbuilt, hframe, hshape, ho⟩
  · exact nextRound_inv h hcs hcode

/-- A session ends with the card deselected and the live area as R25 says; whoever called it goes on. -/
theorem endSession_inv {o : SessionOutcome} (h : contentsInv s) (hsession : sessionInv c s)
    (hcs : s.cs = .deselected) (hlive : liveArea { s with outcome := some o }) :
    State.Inv (endSession c o s) := by
  obtain ⟨hcode, -, hcaller⟩ := hsession
  have h' := h.setOutcome hlive
  cases c with
  | host => exact inv_iff.mpr ⟨h', by simp [endSession, hcs], nofun⟩
  | reset => exact afterReset_inv o h' hcode
  | ifcheck => exact enterEpilogue_inv h' (ifcheckVerdict_mem o) nofun
  | roundPrefix =>
    obtain ⟨-, -, -, hround⟩ := hcaller
    exact afterPrefix_inv o h' hcs hcode hround
  | roundInit => exact afterInit_inv o h' hcs hcode hcaller rfl

/-! ### Inside a session -/

theorem goto_session_inv (h : contentsInv s) (hsession : sessionInv c s) (hpos : sessionPosInv p s) :
    State.Inv (goto (.session c p) s) := by
  refine inv_iff.mpr ⟨h.moves (goto_moves _ s), ?_⟩
  obtain ⟨hcode, ho, hcaller⟩ := hsession
  exact ⟨hcode, ho, hcaller, hpos⟩

theorem failSession_inv (h : contentsInv s) (hsession : sessionInv c s) : State.Inv (failSession c s) :=
  goto_session_inv h hsession trivial

theorem sessionGoOn_inv (r : Reply) (h : contentsInv s) (hsession : sessionInv c s) (hpos : sessionPosInv p s) :
    State.Inv (sessionGoOn c p r s) := by
  unfold sessionGoOn
  split
  · exact failSession_inv h hsession
  · exact goto_session_inv h hsession hpos

theorem enterPoll_inv (h : contentsInv s) (hsession : sessionInv c s) (hcs : s.cs = .deselected)
    (hrsp : s.rsp = Rsp.filled) : State.Inv (enterPoll c s) := by
  obtain ⟨hlt, heq⟩ | ⟨-, heq⟩ := enterPoll_cases c s <;> rw [heq]
  · exact goto_session_inv (s := { s with pollCnt := s.pollCnt + 1 }) h hsession
      ⟨hcs, hrsp, Nat.le_add_left 1 _, hlt⟩
  · exact endSession_inv h hsession hcs hrsp

theorem respond_inv (h : contentsInv s) (hsession : sessionInv c s) (hcs : s.cs = .deselected)
    (hhead : (rspArea s.rsp s.shape).head? ≠ some Config.idleByte) (hothers : othersFilled s.shape s.rsp) :
    State.Inv (respond c s) :=
  endSession_inv h hsession hcs ⟨rfl, hhead, hothers⟩

theorem shapeLength_pos (sh : Shape) : 0 < shapeLength sh := by
  cases sh <;> decide

theorem othersFilled_rspWrite {r : Rsp} {sh : Shape} (h : othersFilled sh r) (i : Nat) (v : Byte) :
    othersFilled sh (rspWrite r sh i v) := fun sh' hne => by
  rw [rspArea_rspWrite_other r hne]
  exact h sh' hne

theorem othersFilled_filled (sh : Shape) : othersFilled sh Rsp.filled := fun sh' _ => rspArea_filled sh'

theorem rspArea_rspWrite_zero_head (r : Rsp) (sh : Shape) (v : Byte) :
    (rspArea (rspWrite r sh 0 v) sh).head? = some v := by
  rw [rspArea_rspWrite_self, List.head?_eq_getElem?,
    List.getElem?_set_self (by rw [rspArea_length]; exact shapeLength_pos sh)]

theorem rspArea_rspWrite_succ_head (r : Rsp) (sh : Shape) {i : Nat} (hi : 1 ≤ i) (v : Byte) :
    (rspArea (rspWrite r sh i v) sh).head? = (rspArea r sh).head? := by
  rw [rspArea_rspWrite_self, List.head?_eq_getElem?, List.getElem?_set_ne (by omega), List.head?_eq_getElem?]

/-- A first byte other than `0xFF` is stored in a buffer that was filled, and begins the response (R81, R132). -/
theorem afterPoll_inv (r : Reply) (h : contentsInv s) (hsession : sessionInv c s) (hpos : sessionPosInv .poll s) :
    State.Inv (afterPoll c r s) := by
  obtain ⟨hcs, hrsp, hle, hbound⟩ := hpos
  have hstored := h.setRsp (r := rspWrite s.rsp s.shape 0 r.data) hsession.outcome_none
  have hothers : othersFilled s.shape (rspWrite s.rsp s.shape 0 r.data) :=
    othersFilled_rspWrite (hrsp ▸ othersFilled_filled s.shape) 0 r.data
  unfold afterPoll
  split
  · exact failSession_inv h hsession
  split
  · exact enterPoll_inv h hsession hcs hrsp
  next hdata =>
  have hhead : (rspArea (rspWrite s.rsp s.shape 0 r.data) s.shape).head? ≠ some Config.idleByte := by
    rw [rspArea_rspWrite_zero_head]
    exact fun heq => hdata (Option.some.inj heq)
  split
  · exact respond_inv (s := storeByte 0 r.data s) hstored hsession hcs hhead hothers
  · next hlen =>
    have hpos := shapeLength_pos s.shape
    exact goto_session_inv (s := { storeByte 0 r.data s with burstIdx := 1 }) hstored hsession
      ⟨hcs, hle, hbound, Nat.le_refl 1, by simp only [storeByte_shape]; omega, hhead, hothers⟩

/-- The burst leaves byte 0 of the response and the other areas as they are (R132). -/
theorem afterBurst_inv (r : Reply) (hs : s.seq = .session c .burst) (h : contentsInv s) (hsession : sessionInv c s)
    (hpos : sessionPosInv .burst s) : State.Inv (afterBurst c r s) := by
  obtain ⟨hcs, hle, hbound, hidx, -, hhead, hothers⟩ := hpos
  have hstored := h.setRsp (r := rspWrite s.rsp s.shape s.burstIdx r.data) hsession.outcome_none
  have hothers' := othersFilled_rspWrite hothers s.burstIdx r.data
  have hhead' : (rspArea (rspWrite s.rsp s.shape s.burstIdx r.data) s.shape).head? ≠ some Config.idleByte := by
    rwa [rspArea_rspWrite_succ_head s.rsp s.shape hidx]
  unfold afterBurst
  split
  · exact failSession_inv h hsession
  split
  · next hlt =>
    have hgoto : { storeByte s.burstIdx r.data s with burstIdx := s.burstIdx + 1 } =
        goto (.session c .burst) { storeByte s.burstIdx r.data s with burstIdx := s.burstIdx + 1 } := by
      simp only [goto, storeByte_seq, hs]
    rw [hgoto]
    exact goto_session_inv hstored hsession ⟨hcs, hle, hbound, Nat.le_add_left 1 _, hlt, hhead', hothers'⟩
  · exact respond_inv (s := storeByte s.burstIdx r.data s) hstored hsession hcs hhead' hothers'

/-! ### The positions of a session -/

/-- An action keeps the invariant if what follows it does, from the position that issued it. -/
theorem inv_of_awaitReply {event : Reply → Event} {goOn : Reply → State → State} (hinv : State.Inv s)
    (h : awaitReply event goOn s = .next t)
    (hgo : ∀ r u, u.seq = s.seq → State.Inv u → State.Inv (goOn r u)) : State.Inv t := by
  obtain ⟨-, ht⟩ | ⟨r, rest, -, ht⟩ := awaitReply_cases h
  · exact Host.Outcome.next.inj ht ▸ hinv
  · exact Host.Outcome.next.inj ht ▸ hgo r _ rfl hinv

theorem State.Inv.at_session (h : State.Inv s) (hs : s.seq = .session c p) :
    contentsInv s ∧ sessionInv c s ∧ sessionPosInv p s := by
  obtain ⟨hcontents, hseq⟩ := inv_iff.mp h
  exact ⟨hcontents, (seqInv_session hs).mp hseq⟩

theorem session_awaitReply_inv {event : Reply → Event} {goOn : Reply → State → State} (hs : s.seq = .session c p)
    (hinv : State.Inv s) (h : awaitReply event goOn s = .next t)
    (hgo : ∀ r u, u.seq = .session c p → contentsInv u → sessionInv c u → sessionPosInv p u →
      State.Inv (goOn r u)) : State.Inv t :=
  inv_of_awaitReply hinv h fun r u hu hi => by
    obtain ⟨hcontents, hsession, hpos⟩ := hi.at_session (hu.trans hs)
    exact hgo r u (hu.trans hs) hcontents hsession hpos

theorem session_step_inv (hs : s.seq = .session c p) (hinv : State.Inv s) (h : step s = .next t) :
    State.Inv t := by
  cases p with
  | leadIdle =>
    rw [step_leadIdle hs] at h
    exact session_awaitReply_inv hs hinv h fun r u _ hcontents hsession _ =>
      sessionGoOn_inv r hcontents hsession trivial
  | select =>
    rw [step_select hs] at h
    exact session_awaitReply_inv hs hinv h fun _ u _ hcontents hsession _ =>
      goto_session_inv (s := setCs .selected u) hcontents hsession rfl
  | settleIdle =>
    rw [step_settleIdle hs] at h
    exact session_awaitReply_inv hs hinv h fun r _ _ hcontents hsession hpos =>
      sessionGoOn_inv r hcontents hsession hpos
  | sendFrame =>
    rw [step_sendFrame hs] at h
    exact session_awaitReply_inv hs hinv h fun r _ _ hcontents hsession hpos =>
      sessionGoOn_inv r hcontents hsession hpos
  | tailIdle =>
    rw [step_tailIdle hs] at h
    exact session_awaitReply_inv hs hinv h fun r _ _ hcontents hsession hpos =>
      sessionGoOn_inv r hcontents hsession hpos
  | deselect =>
    rw [step_deselect hs] at h
    exact session_awaitReply_inv hs hinv h fun _ u _ hcontents hsession _ =>
      goto_session_inv (s := fillRsp (setCs .deselected u)) (hcontents.setRsp hsession.outcome_none) hsession ⟨rfl, rfl⟩
  | dispatch =>
    rw [step_dispatch hs] at h
    obtain ⟨hcontents, hsession, hcs, hrsp⟩ := hinv.at_session hs
    exact Host.Outcome.next.inj h ▸ enterPoll_inv (s := { s with pollCnt := 0 }) hcontents hsession hcs hrsp
  | poll =>
    rw [step_poll hs] at h
    exact session_awaitReply_inv hs hinv h fun r _ _ hcontents hsession hpos =>
      afterPoll_inv r hcontents hsession hpos
  | burst =>
    rw [step_burst hs] at h
    exact session_awaitReply_inv hs hinv h fun r _ hu hcontents hsession hpos =>
      afterBurst_inv r hu hcontents hsession hpos
  | failDeselect =>
    rw [step_failDeselect hs] at h
    exact session_awaitReply_inv hs hinv h fun _ u _ hcontents hsession _ =>
      endSession_inv (s := setCs .deselected u) hcontents hsession rfl trivial

/-! ### The positions of BRINGUP -/

theorem preIdleNext_inv (sent : Nat) (h : contentsInv s) (hcs : s.cs = .deselected) (hcode : s.statusCode = none) :
    State.Inv (preIdleNext sent s) := by
  refine inv_iff.mpr ⟨h.moves (preIdleNext_moves sent s), ?_⟩
  unfold preIdleNext
  split
  · next hlt => exact ⟨hcs, hcode, hlt⟩
  · exact ⟨hcs, hcode⟩

theorem finishBringup_inv {code : StatusCode} (h : contentsInv s) (hcs : s.cs = .deselected)
    (hready : code = .ok → readySeen s) : State.Inv (finishBringup code s) :=
  inv_iff.mpr ⟨h.moves (finishBringup_moves code s), hcs, nofun, fun hok => hready (Option.some.inj hok)⟩

theorem ok_not_mem_stepVerdicts (st : BringupStep) : some .ok ∉ stepVerdicts st := by
  cases st <;> decide

theorem nextStep_inv {st : BringupStep} (h : contentsInv s) (hcs : s.cs = .deselected) (hcode : s.statusCode = none)
    (hready : st = .handshake → readySeen s) : State.Inv (nextStep st s) := by
  cases st with
  | reset => exact inv_iff.mpr ⟨h.moves (goto_moves _ s), hcs, hcode⟩
  | ifcheck =>
    obtain ⟨hframe, hlive, htry, -⟩ := h
    exact nextRound_inv (s := { s with round := 0 }) ⟨hframe, hlive, htry, Nat.zero_le _⟩ hcs hcode
  | handshake => exact finishBringup_inv h hcs fun _ => hready rfl

theorem afterEpilogue_inv {st : BringupStep} (r : Reply) (h : contentsInv s) (hcs : s.cs = .deselected)
    (hcode : s.statusCode ∈ stepVerdicts st) (hready : st = .handshake → s.statusCode = none → readySeen s) :
    State.Inv (afterEpilogue st r s) := by
  obtain ⟨code, hc, heq⟩ | ⟨-, -, heq⟩ | ⟨hc, -, heq⟩ := afterEpilogue_cases st r s <;> rw [heq]
  · refine finishBringup_inv h hcs fun hok => absurd hcode ?_
    rw [hc, hok]
    exact ok_not_mem_stepVerdicts st
  · exact finishBringup_inv h hcs nofun
  · exact nextStep_inv h hcs hc fun hst => hready hst hc

/-- A command of `BRINGUP` builds its frame and begins its session; the counters it advanced are within their bounds. -/
theorem startSession_framerBuild_inv {index : BitVec 8} {arg : Arg32} {sh : Shape}
    (htry : s.resetTry ≤ s.params.resetRetryMax) (hround : s.round ≤ s.params.handshakeRoundsMax)
    (hcode : s.statusCode = none) (hcaller : sessionCallerInv c (startSession c sh (framerBuild index arg s))) :
    State.Inv (startSession c sh (framerBuild index arg s)) :=
  inv_iff.mpr ⟨⟨frameInv_of_built (index := index) (arg := arg) rfl rfl, trivial, htry, hround⟩,
    hcode, rfl, hcaller, trivial⟩

/-- At `DONE` the code is returned, and it is success only where the invariant says so of the verdict. -/
theorem returnStatus_inv (hs : s.seq = .done) (hinv : State.Inv s) : State.Inv (returnStatus s) := by
  obtain ⟨hcontents, hseq⟩ := inv_iff.mp hinv
  simp only [seqInv, hs] at hseq
  obtain ⟨hcs, -, hready⟩ := hseq
  refine inv_iff.mpr ⟨hcontents, by simp [hcs], fun hok => ⟨hready ?_, hcs⟩⟩
  simpa [returnStatus] using hok

theorem busy_step_inv (hbusy : s.seq ≠ .idle) (hinv : State.Inv s) (h : step s = .next t) : State.Inv t := by
  obtain ⟨hcontents, hseq⟩ := inv_iff.mp hinv
  obtain ⟨-, -, htry, hround⟩ := hcontents
  cases hs : s.seq with
  | idle => exact absurd hs hbusy
  | session c p => exact session_step_inv hs hinv h
  | done => exact Host.Outcome.next.inj ((step_done hs).symm.trans h) ▸ returnStatus_inv hs hinv
  | preDeselect =>
    rw [step_preDeselect hs] at h
    refine inv_of_awaitReply hinv h fun _ u hu hi => ?_
    obtain ⟨hcontents, hseq⟩ := inv_iff.mp hi
    simp only [seqInv, hu, hs] at hseq
    exact preIdleNext_inv (s := setCs .deselected u) 0 hcontents rfl hseq
  | preIdle sent =>
    rw [step_preIdle hs] at h
    refine inv_of_awaitReply hinv h fun r u hu hi => ?_
    obtain ⟨hcontents, hseq⟩ := inv_iff.mp hi
    simp only [seqInv, hu, hs] at hseq
    obtain ⟨hcs, hcode, -⟩ := hseq
    split
    · exact finishBringup_inv hcontents hcs nofun
    · exact preIdleNext_inv _ hcontents hcs hcode
  | resetSelect =>
    rw [step_resetSelect hs] at h
    refine inv_of_awaitReply hinv h fun _ u hu hi => ?_
    obtain ⟨⟨hframe, hlive, -, hround⟩, hseq⟩ := inv_iff.mp hi
    simp only [seqInv, hu, hs] at hseq
    obtain ⟨-, hcode⟩ := hseq
    exact nextAttempt_inv (s := { setCs .selected u with resetTry := 0 })
      ⟨hframe, hlive, Nat.zero_le _, hround⟩ hcode
  | resetAttempt =>
    simp only [seqInv, hs] at hseq
    obtain ⟨hcode, hlt⟩ := hseq
    rw [step_resetAttempt hs] at h
    exact Host.Outcome.next.inj h ▸ startSession_framerBuild_inv (s := { s with resetTry := s.resetTry + 1 })
      hlt hround hcode ⟨rfl, rfl, rfl, Nat.le_add_left 1 _⟩
  | ifcheckCommand =>
    simp only [seqInv, hs] at hseq
    obtain ⟨-, hcode⟩ := hseq
    rw [step_ifcheckCommand hs] at h
    exact Host.Outcome.next.inj h ▸ startSession_framerBuild_inv htry hround hcode ⟨rfl, rfl, rfl⟩
  | roundPrefix =>
    simp only [seqInv, hs] at hseq
    obtain ⟨-, hcode, hlt⟩ := hseq
    rw [step_roundPrefix hs] at h
    exact Host.Outcome.next.inj h ▸ startSession_framerBuild_inv (s := { s with round := s.round + 1 })
      htry hlt hcode ⟨rfl, rfl, rfl, Nat.le_add_left 1 _⟩
  | roundInit =>
    simp only [seqInv, hs] at hseq
    obtain ⟨-, hcode, hle⟩ := hseq
    rw [step_roundInit hs] at h
    exact Host.Outcome.next.inj h ▸ startSession_framerBuild_inv htry hround hcode ⟨rfl, rfl, rfl, hle⟩
  | epilogueDeselect st =>
    rw [step_epilogueDeselect hs] at h
    refine inv_of_awaitReply hinv h fun _ u hu hi => ?_
    obtain ⟨hcontents, hseq⟩ := inv_iff.mp hi
    simp only [seqInv, hu, hs] at hseq
    exact inv_iff.mpr ⟨hcontents, rfl, hseq⟩
  | epilogueIdle st =>
    rw [step_epilogueIdle hs] at h
    refine inv_of_awaitReply hinv h fun r u hu hi => ?_
    obtain ⟨hcontents, hseq⟩ := inv_iff.mp hi
    simp only [seqInv, hu, hs] at hseq
    obtain ⟨hcs, hcode, hready⟩ := hseq
    exact afterEpilogue_inv r hcontents hcs hcode hready

/-! ### Host requests -/

/-- What a host can ask for: the operations and the command lines, no action and no shape (R195). -/
def isHostInstr (i : Instr) : Bool :=
  match i with
  | .sel | .desel | .xchg _ | .xmit _ => false
  | .shapeStatus | .shapeBusy | .shapeStatus2 | .shapeOcr | .shapeIfcond => false
  | .shapeReserved101 | .shapeReserved110 | .shapeReserved111 => false
  | _ => true

theorem isHostInstr_of_request {q : HostRequest} {i : Instr} (h : decode (requestPacket q) = .ok i) :
    isHostInstr i = true := by
  cases q with
  | op l =>
    obtain rfl : decodeHost l = i := Except.ok.inj h
    unfold decodeHost
    split_ifs <;> rfl
  | command w sh =>
    cases sh with
    | some code =>
      simp only [requestPacket, decode, decodeFrame] at h
      split_ifs at h
      exact Except.ok.inj h ▸ rfl
    | none =>
      simp only [requestPacket, decode, decodeFrame] at h
      split_ifs at h <;> exact Except.ok.inj h ▸ rfl

/-- The idle block with no outcome and no code standing, and the counters at zero. -/
theorem idle_inv (hs : s.seq = .idle) (hframe : frameInv s) (ho : s.outcome = none) (htry : s.resetTry = 0)
    (hround : s.round = 0) (hcs : s.cs ≠ .selected) (hresult : s.result ≠ some (.status .ok)) : State.Inv s := by
  refine inv_iff.mpr ⟨⟨hframe, by simp [liveArea, ho], by omega, by omega⟩, ?_⟩
  simp only [seqInv, hs]
  exact ⟨hcs, fun h => absurd h hresult⟩

theorem State.Inv.at_idle (h : State.Inv s) (hs : s.seq = .idle) : frameInv s ∧ s.cs ≠ .selected := by
  obtain ⟨⟨hframe, -⟩, hseq⟩ := inv_iff.mp h
  simp only [seqInv, hs] at hseq
  exact ⟨hframe, hseq.1⟩

theorem issueCommand_idle_inv {index : BitVec 8} {arg : Arg32} {sh : Shape} (hs : s.seq = .idle)
    (h : issueCommand index arg sh s = .next t) : State.Inv t := by
  rw [issueCommand_idle hs] at h
  refine Host.Outcome.next.inj h ▸ inv_iff.mpr ⟨⟨?_, trivial, Nat.zero_le _, Nat.zero_le _⟩, rfl, rfl, rfl, trivial⟩
  exact frameInv_of_built (index := index) (arg := arg) rfl rfl

theorem buildFrameRequest_idle_inv {index : BitVec 8} {arg : Arg32} (hs : s.seq = .idle) (hinv : State.Inv s)
    (h : buildFrameRequest index arg s = .next t) : State.Inv t := by
  obtain ⟨-, hcs⟩ := hinv.at_idle hs
  obtain ⟨-, rfl⟩ | ⟨hbusy, -⟩ := buildFrameRequest_cases h
  · exact idle_inv hs (frameInv_of_built (index := index) (arg := arg) rfl rfl) rfl rfl rfl hcs nofun
  · exact absurd hs hbusy

/-- An operation of the host re-initialises the transient state (R41), and begins or ends where it is idle. -/
theorem host_exec_inv {i : Instr} (hhost : isHostInstr i = true) (hs : s.seq = .idle) (hinv : State.Inv s)
    (h : exec i s = .next t) : State.Inv t := by
  obtain ⟨hframe, hcs⟩ := hinv.at_idle hs
  cases i with
  | sel | desel | xchg _ | xmit _ | shapeStatus | shapeBusy | shapeStatus2 | shapeOcr | shapeIfcond
  | shapeReserved101 | shapeReserved110 | shapeReserved111 => exact nomatch hhost
  | opReserved000 | opReserved110 | opReserved111 => exact Host.Outcome.next.inj h ▸ hinv
  | crc7 bytes =>
    obtain rfl := Host.Outcome.next.inj ((exec_crc7_idle bytes hs).symm.trans h)
    exact idle_inv hs hframe rfl rfl rfl hcs nofun
  | crc16 bytes =>
    obtain rfl := Host.Outcome.next.inj ((exec_crc16_idle bytes hs).symm.trans h)
    exact idle_inv hs hframe rfl rfl rfl hcs nofun
  | bringup =>
    obtain rfl := Host.Outcome.next.inj ((exec_bringup_idle hs).symm.trans h)
    exact inv_iff.mpr ⟨⟨hframe, trivial, Nat.zero_le _, Nat.zero_le _⟩, rfl⟩
  | buildFrame index arg => exact buildFrameRequest_idle_inv hs hinv h
  | sendCommand code =>
    obtain ⟨sh, -, hbuilt, -, rfl⟩ | ⟨-, rfl⟩ := execSendCommand_cases h
    · exact inv_iff.mpr ⟨⟨hframe, trivial, Nat.zero_le _, Nat.zero_le _⟩, rfl, rfl, hbuilt, trivial⟩
    · exact hinv
  | cmd0 | cmd8 | cmd55 | acmd41 => exact issueCommand_idle_inv hs h
  | cmdN n arg g code =>
    simp only [exec, execCmdN] at h
    split at h
    · exact issueCommand_idle_inv hs h
    · exact buildFrameRequest_idle_inv hs hinv h

/-- The one step lemma of the invariant. -/
theorem step_inv (hinv : State.Inv s) (h : step s = .next t) : State.Inv t := by
  obtain ⟨hs, rfl⟩ | ⟨-, -, rfl⟩ | ⟨q, rest, i, hs, -, hdec, hi⟩ | ⟨i, hi, -⟩ := step_cases h
  · exact returnStatus_inv hs hinv
  · exact hinv
  · exact host_exec_inv (s := { s with requests := rest }) (isHostInstr_of_request hdec) hs hinv hi
  · exact busy_step_inv (fun hs => by simp [issuedInstr, hs] at hi) hinv h

/-! ### The obligations -/

/-- Settles O49: position by position, what a step leads to meets what the invariant says of where it leads. -/
theorem stepKeepsTheInvariant : Obligations.StepKeepsTheInvariant := fun _ _ hinv h => step_inv hinv h

/-- Settles O50: the state after the step meets the invariant, whose live area says what R25 says. -/
theorem onlyTheLiveAreaHoldsAResponse : Obligations.OnlyTheLiveAreaHoldsAResponse := by
  intro s t hinv _ h
  obtain ⟨⟨-, hlive, -⟩, -⟩ := inv_iff.mp (step_inv hinv h)
  refine ⟨fun bytes ho => ?_, fun ho sh b hb => ?_⟩
  · simp only [liveArea, ho] at hlive
    obtain ⟨rfl, hhead, hothers⟩ := hlive
    refine ⟨rfl, rspArea_length _ _, hhead, fun sh hne b hb => ?_⟩
    rw [hothers sh hne] at hb
    exact List.eq_of_mem_replicate hb
  · simp only [liveArea, ho] at hlive
    rw [hlive, rspArea_filled] at hb
    exact List.eq_of_mem_replicate hb

end Sys2Proof.Machine

/-! Scope: the operations on the idle block, the chip-select calls, and which instruction writes which buffer. -/

namespace Sys2Proof.Machine

variable {s t : State}

/-! ### The bytes of a frame -/

/-- The CRC byte by index (R76, R110). -/
theorem frameCrcByte_eq (index : BitVec 8) (arg : Arg32) :
    frameCrcByte index arg =
      if index = 0#8 then 0x95#8
      else if index = 8#8 then 0x87#8
      else if index = 55#8 then 0x65#8
      else packCrc (crc7 (frameHead index arg)) := by
  unfold frameCrcByte fixedCrcByte
  split_ifs <;> rfl

/-- The CRC engine runs only for an index without a literal (R112). -/
theorem frameCrcReg_eq (index : BitVec 8) (arg : Arg32) (reg : Crc7Value) :
    frameCrcReg index arg reg =
      if index = 0#8 ∨ index = 8#8 ∨ index = 55#8 then reg else crc7 (frameHead index arg) := by
  unfold frameCrcReg fixedCrcByte
  split_ifs <;> simp_all

/-! ### Chip-select calls -/

/-- But for the entry to step 2, a `SEL` is followed by another position and nothing else. -/
theorem afterSel_elsewhere (h : s.seq ≠ .resetSelect) : ∃ p, afterSel s = goto p s := by
  unfold afterSel
  split
  · next hs => exact absurd hs h
  · exact ⟨_, rfl⟩
  · exact ⟨s.seq, rfl⟩

/-- A `DESEL` is followed by `RSP_FILL`, by the end of a failed session, or by another position and nothing else. -/
theorem afterDesel_cases (s : State) :
    (∃ c, s.seq = .session c .deselect ∧ afterDesel s = goto (.session c .dispatch) (fillRsp s)) ∨
    (∃ c, s.seq = .session c .failDeselect ∧ afterDesel s = endSession c .transportFailure s) ∨
    ((∀ c, s.seq ≠ .session c .deselect) ∧ (∀ c, s.seq ≠ .session c .failDeselect) ∧
      ∃ p, afterDesel s = goto p s) := by
  unfold afterDesel
  split
  · next hs =>
    refine .inr (.inr ⟨by simp [hs], by simp [hs], ?_⟩)
    unfold preIdleNext
    split
    · exact ⟨_, rfl⟩
    · exact ⟨_, rfl⟩
  · next c hs => exact .inl ⟨c, hs, rfl⟩
  · next c hs => exact .inr (.inl ⟨c, hs, rfl⟩)
  · next st hs => exact .inr (.inr ⟨by simp [hs], by simp [hs], _, rfl⟩)
  · next hd hf _ => exact .inr (.inr ⟨hd, hf, s.seq, rfl⟩)

/-! ### The writers of a buffer -/

/-- No buffer and not `CS` is written. -/
structure StoresKept (s t : State) : Prop where
  frame : t.frame = s.frame
  arg : t.arg = s.arg
  frameBuilt : t.frameBuilt = s.frameBuilt
  rsp : t.rsp = s.rsp
  cs : t.cs = s.cs

theorem StoresKept.refl (s : State) : StoresKept s s := ⟨rfl, rfl, rfl, rfl, rfl⟩

theorem SequencerKept.stores (h : SequencerKept s t) (hrsp : t.rsp = s.rsp) : StoresKept s t := by
  obtain ⟨-, hframe, harg, hbuilt, -⟩ := h.buffers
  exact ⟨hframe, harg, hbuilt, hrsp, h.cs⟩

theorem accept_storesKept {run : State → Host.Outcome State Fault Refusal} (h : accept run s = .next t)
    (hrun : ∀ u v, run u = .next v → StoresKept u v) : StoresKept s t := by
  by_cases hs : s.seq = .idle
  · rw [accept_idle hs] at h
    obtain ⟨hframe, harg, hbuilt, hrsp, hcs⟩ := hrun _ t h
    exact ⟨hframe, harg, hbuilt, hrsp, hcs⟩
  · rw [accept_busy hs] at h
    exact Host.Outcome.next.inj h ▸ StoresKept.refl s

theorem execCrc7_storesKept {bytes : List Byte} (h : execCrc7 bytes s = .next t) : StoresKept s t :=
  accept_storesKept h fun _ _ hrun => Host.Outcome.next.inj hrun ▸ ⟨rfl, rfl, rfl, rfl, rfl⟩

theorem execCrc16_storesKept {bytes : List Byte} (h : execCrc16 bytes s = .next t) : StoresKept s t :=
  accept_storesKept h fun _ _ hrun => Host.Outcome.next.inj hrun ▸ ⟨rfl, rfl, rfl, rfl, rfl⟩

theorem execBringup_storesKept (h : execBringup s = .next t) : StoresKept s t :=
  accept_storesKept h fun _ _ hrun => Host.Outcome.next.inj hrun ▸ ⟨rfl, rfl, rfl, rfl, rfl⟩

theorem execSendCommand_storesKept {code : BitVec 3} (h : execSendCommand code s = .next t) : StoresKept s t := by
  obtain ⟨sh, -, -, -, rfl⟩ | ⟨-, rfl⟩ := execSendCommand_cases h
  · exact ⟨rfl, rfl, rfl, rfl, rfl⟩
  · exact StoresKept.refl _

theorem endSession_rsp (c : SessionCaller) (o : SessionOutcome) (s : State) : (endSession c o s).rsp = s.rsp := by
  obtain ⟨res, p, v, h⟩ := endSession_moves c o s
  rw [h]

theorem enterPoll_rsp (c : SessionCaller) (s : State) : (enterPoll c s).rsp = s.rsp := by
  obtain ⟨-, h⟩ | ⟨-, h⟩ := enterPoll_cases c s
  · rw [h]
  · rw [h, endSession_rsp]

theorem dispatchShape_storesKept {sh : Shape} (h : dispatchShape sh s = .next t) : StoresKept s t := by
  obtain ⟨-, rfl⟩ | ⟨c, -, rfl⟩ | ⟨-, -, rfl⟩ := dispatchShape_cases h
  · exact ⟨rfl, rfl, rfl, rfl, rfl⟩
  · obtain ⟨hframe, harg, hbuilt, hrsp, hcs⟩ :=
      (enterPoll_kept c { s with shape := sh, pollCnt := 0 }).stores (enterPoll_rsp c _)
    exact ⟨hframe, harg, hbuilt, hrsp, hcs⟩
  · exact StoresKept.refl _

theorem execXmit_storesKept {f : Frame} (h : execXmit f s = .next t) : StoresKept s t := by
  obtain ⟨-, ht⟩ | ⟨r, rest, -, ht⟩ := awaitReply_cases h
  · exact Host.Outcome.next.inj ht ▸ StoresKept.refl s
  · obtain ⟨p, v, hm⟩ := afterXmit_moves r { s with replies := rest, trace := s.trace ++ [xmitEvent f r] }
    rw [Host.Outcome.next.inj ht, hm]
    exact ⟨rfl, rfl, rfl, rfl, rfl⟩

theorem execSel_keeps_buffers (h : execSel s = .next t) : StoresKept s { t with cs := s.cs } := by
  obtain ⟨-, ht⟩ | ⟨r, rest, -, ht⟩ := awaitReply_cases h
  · exact Host.Outcome.next.inj ht ▸ StoresKept.refl s
  · obtain ⟨n, p, v, hm⟩ :=
      afterSel_moves (setCs .selected { s with replies := rest, trace := s.trace ++ [.sel] })
    rw [Host.Outcome.next.inj ht, hm]
    exact ⟨rfl, rfl, rfl, rfl, rfl⟩

/-- `RSP` is written after the `DESEL` of session step 3 only (R130). -/
theorem afterDesel_rsp (h : ∀ c, s.seq ≠ .session c .deselect) : (afterDesel s).rsp = s.rsp := by
  obtain ⟨c, hs, -⟩ | ⟨c, -, heq⟩ | ⟨-, -, p, heq⟩ := afterDesel_cases s
  · exact absurd hs (h c)
  · rw [heq, endSession_rsp]
  · rw [heq, goto_rsp]

/-- `RSP` is written where a session polls or reads a burst only (R26). -/
theorem afterXchg_rsp (r : Reply) (h : ∀ c, s.seq ≠ .session c .poll ∧ s.seq ≠ .session c .burst) :
    (afterXchg r s).rsp = s.rsp := by
  obtain ⟨n, p, v, hm⟩ := afterXchg_moves (r := r) (.inr h)
  rw [hm]

theorem execDesel_keeps_buffers (h : execDesel s = .next t) :
    t.frame = s.frame ∧ t.arg = s.arg ∧ t.frameBuilt = s.frameBuilt ∧
      ((∀ c, s.seq ≠ .session c .deselect) → t.rsp = s.rsp) := by
  obtain ⟨-, ht⟩ | ⟨r, rest, -, ht⟩ := awaitReply_cases h
  · obtain rfl := Host.Outcome.next.inj ht
    exact ⟨rfl, rfl, rfl, fun _ => rfl⟩
  · obtain rfl := Host.Outcome.next.inj ht
    obtain ⟨-, hframe, harg, hbuilt, -⟩ :=
      (afterDesel_kept (setCs .deselected { s with replies := rest, trace := s.trace ++ [.desel] })).buffers
    exact ⟨hframe, harg, hbuilt, fun hpos => afterDesel_rsp hpos⟩

theorem execXchg_keeps_buffers {out : Byte} (h : execXchg out s = .next t) :
    t.frame = s.frame ∧ t.arg = s.arg ∧ t.frameBuilt = s.frameBuilt ∧ t.cs = s.cs ∧
      ((∀ c, s.seq ≠ .session c .poll ∧ s.seq ≠ .session c .burst) → t.rsp = s.rsp) := by
  obtain ⟨-, ht⟩ | ⟨r, rest, -, ht⟩ := awaitReply_cases h
  · obtain rfl := Host.Outcome.next.inj ht
    exact ⟨rfl, rfl, rfl, rfl, fun _ => rfl⟩
  · obtain rfl := Host.Outcome.next.inj ht
    have hkept := afterXchg_kept r { s with replies := rest, trace := s.trace ++ [xchgEvent out r] }
    obtain ⟨-, hframe, harg, hbuilt, -⟩ := hkept.buffers
    exact ⟨hframe, harg, hbuilt, hkept.cs, fun hpos => afterXchg_rsp r hpos⟩

theorem buildFrameRequest_rsp_cs {index : BitVec 8} {arg : Arg32} (h : buildFrameRequest index arg s = .next t) :
    t.rsp = s.rsp ∧ t.cs = s.cs := by
  obtain ⟨-, rfl⟩ | ⟨-, rfl⟩ := buildFrameRequest_cases h
  · exact ⟨rfl, rfl⟩
  · exact ⟨rfl, rfl⟩

theorem buildCommand_rsp_cs (c : SessionCaller) (index : BitVec 8) (arg : Arg32) (s : State) :
    (buildCommand c index arg s).rsp = s.rsp ∧ (buildCommand c index arg s).cs = s.cs := by
  cases c <;> exact ⟨rfl, rfl⟩

theorem issueCommand_rsp_cs {index : BitVec 8} {arg : Arg32} {sh : Shape}
    (h : issueCommand index arg sh s = .next t) : t.rsp = s.rsp ∧ t.cs = s.cs := by
  obtain ⟨c, -, rfl⟩ | ⟨-, rfl⟩ := issueCommand_cases h
  · exact buildCommand_rsp_cs c index arg s
  · exact ⟨rfl, rfl⟩

theorem execCmdN_rsp_cs {n : BitVec 6} {arg : Arg32} {code : BitVec 3} (h : execCmdN n arg code s = .next t) :
    t.rsp = s.rsp ∧ t.cs = s.cs := by
  unfold execCmdN at h
  split at h
  · exact issueCommand_rsp_cs h
  · exact buildFrameRequest_rsp_cs h

/-- The instructions that write no buffer and not `CS`, at any position. -/
theorem exec_storesKept {i : Instr} (h : exec i s = .next t) (hbuild : buildsFrame i = false) (hsel : i ≠ .sel)
    (hdesel : i ≠ .desel) (hxchg : ∀ out, i ≠ .xchg out) : StoresKept s t := by
  cases i with
  | sel => exact absurd rfl hsel
  | desel => exact absurd rfl hdesel
  | xchg out => exact absurd rfl (hxchg out)
  | buildFrame _ _ | cmd0 | cmd8 | cmd55 | acmd41 | cmdN _ _ _ _ => exact nomatch hbuild
  | crc7 _ => exact execCrc7_storesKept h
  | crc16 _ => exact execCrc16_storesKept h
  | bringup => exact execBringup_storesKept h
  | sendCommand _ => exact execSendCommand_storesKept h
  | opReserved000 | opReserved110 | opReserved111 | shapeReserved101 | shapeReserved110 | shapeReserved111 =>
    exact Host.Outcome.next.inj h ▸ StoresKept.refl s
  | shapeStatus | shapeBusy | shapeStatus2 | shapeOcr | shapeIfcond => exact dispatchShape_storesKept h
  | xmit _ => exact execXmit_storesKept h

/-- The instructions that build a frame write neither `RSP` nor `CS`. -/
theorem exec_rsp_cs_of_buildsFrame {i : Instr} (hbuild : buildsFrame i = true) (h : exec i s = .next t) :
    t.rsp = s.rsp ∧ t.cs = s.cs := by
  cases i with
  | buildFrame _ _ => exact buildFrameRequest_rsp_cs h
  | cmd0 | cmd8 | cmd55 | acmd41 => exact issueCommand_rsp_cs h
  | cmdN _ _ _ _ => exact execCmdN_rsp_cs h
  | _ => exact nomatch hbuild

/-! ### The obligations -/

/-- Settles O11: the two equations of an accepted CRC operation. -/
theorem crcOperationsReturnTheCrc : Obligations.CrcOperationsReturnTheCrc := fun bytes _ hs =>
  ⟨exec_crc7_idle bytes hs, exec_crc16_idle bytes hs⟩

/-- Settles O12: the equation of an accepted `BUILD_FRAME`, its CRC byte and its CRC register by index; the printed
frames are evaluated. -/
theorem buildFrameWritesFrameAndArg : Obligations.BuildFrameWritesFrameAndArg := by
  refine ⟨fun index arg s hs => ?_, fun l hl => ?_, by decide, by decide +kernel, by decide⟩
  · rw [exec_buildFrame_idle index arg hs]
    simp only [framerBuild, writeFrame, buildFrame, frameCrcByte_eq, frameCrcReg_eq, clearTransient_crc7Reg]
    rfl
  · simp [decode, decodeHost, hl]

/-- Settles O15: the equation of an accepted command, with the four frames evaluated. -/
theorem fixedCommandsBuildTheirFrameAndStart : Obligations.FixedCommandsBuildTheirFrameAndStart := by
  intro s hs
  have hframe : ∀ {index : BitVec 8} {arg : Arg32} {f : Frame} {sh : Shape}, buildFrame index arg = f →
      issueCommand index arg sh s = .next (startSession .host sh (clearTransient (writeFrame f s))) := by
    rintro index arg f sh rfl
    exact issueCommand_idle hs
  exact ⟨hframe (by decide), hframe (by decide), hframe (by decide), hframe (by decide +kernel)⟩

/-- Settles O23: a `SEND_COMMAND` is accepted with one of the five shapes and a built frame, and refused without. -/
theorem sendCommandStartsItsSessionOrIsRefused : Obligations.SendCommandStartsItsSessionOrIsRefused := by
  have hunbuilt : ∀ (code : BitVec 3) (s : State), s.frameBuilt = false → exec (.sendCommand code) s = .next s := by
    intro code s hb
    cases hc : shapeOfCode code with
    | none => exact exec_sendCommand_reserved s hc
    | some sh => simp [exec, execSendCommand, refuseRequest, hc, hb]
  refine ⟨fun code s hs => ⟨fun sh hc hb => ?_, fun hc => ?_⟩, hunbuilt, fun code => hunbuilt code _ rfl,
    fun code f a s => hunbuilt code _ rfl⟩
  · exact exec_sendCommand_idle hs hc hb
  · exact exec_sendCommand_reserved s hc

/-- Settles O29: the equation of an accepted `BRINGUP`. -/
theorem bringupIsAcceptedWhenIdle : Obligations.BringupIsAcceptedWhenIdle := fun _ hs => exec_bringup_idle hs

/-- Settles O31: the step takes one return for its `SEL`, and the loop head decides with `RESET_TRY` at 0. -/
theorem resetStepBeginsWithSel : Obligations.ResetStepBeginsWithSel := by
  intro s r rest hs hr
  rw [step_resetSelect hs, awaitReply_cons hr]
  let u : State := { setCs .selected { s with replies := rest, trace := s.trace ++ [.sel] } with resetTry := 0 }
  have hkept := (nextAttempt_moves u).kept
  refine ⟨nextAttempt u, rfl, hkept.cs, hkept.resetTry, hkept.trace, fun hpos => ?_, fun hzero => ?_⟩
  · obtain ⟨-, heq⟩ | ⟨hle, -⟩ := nextAttempt_cases u
    · rw [heq, goto_seq]
    · exact absurd hpos (Nat.not_lt.mpr hle)
  · obtain ⟨hlt, -⟩ | ⟨-, heq⟩ := nextAttempt_cases u
    · exact absurd hlt (by simp [u, hzero])
    · rw [heq]
      exact ⟨rfl, rfl⟩

/-- Settles O41: each clause is what a step is with a request, with none, and at work. -/
theorem stepRunsTheDecodedInstruction : Obligations.StepRunsTheDecodedInstruction := by
  refine ⟨fun s q rest i hs hq hd => ?_, fun s q rest e hs hq hd => ?_, fun s hs hq => step_idle_nil hs hq,
    fun s i hi => ⟨decode_encode_issued hi, step_busy hi⟩⟩
  · rw [step_idle_cons hs hq, hd]
  · rw [step_idle_cons hs hq, hd]

/-- Settles O18: what follows a `SEL` moves on and may write `RESET_TRY`, and elsewhere than on the entry to step 2 only
moves on. -/
theorem selSetsChipSelect : Obligations.SelSetsChipSelect := by
  intro s r rest hr
  let u : State := setCs .selected { s with replies := rest, trace := s.trace ++ [.sel] }
  refine ⟨afterSel u, exec_sel_cons hr, ?_⟩
  obtain ⟨n, p, v, hm⟩ := afterSel_moves u
  have helse : s.seq ≠ .resetSelect →
      (afterSel u).resetTry = s.resetTry ∧ (afterSel u).statusCode = s.statusCode := by
    intro hs
    obtain ⟨p, heq⟩ := afterSel_elsewhere (s := u) hs
    rw [heq]
    exact ⟨rfl, rfl⟩
  rw [hm] at helse ⊢
  exact ⟨rfl, rfl, rfl, ⟨rfl, rfl, rfl, rfl, rfl, rfl, rfl⟩, rfl, rfl, rfl, rfl, rfl, rfl, rfl, helse⟩

/-- Settles O19: `RSP_FILL`, the end of a failed session, or another position and nothing else. -/
theorem deselClearsChipSelect : Obligations.DeselClearsChipSelect := by
  intro s r rest hr
  let u : State := setCs .deselected { s with replies := rest, trace := s.trace ++ [.desel] }
  refine ⟨afterDesel u, exec_desel_cons hr, ?_⟩
  obtain ⟨hbuf, hcs, hshape, htry, hrep, htrace⟩ := afterDesel_kept u
  refine ⟨hcs, htrace, hrep, hbuf, hshape, htry, ?_⟩
  obtain ⟨c, hs, heq⟩ | ⟨c, hs, heq⟩ | ⟨hd, hf, p, heq⟩ := afterDesel_cases u
  · rw [heq]
    exact ⟨rfl, rfl, rfl, fun hne => absurd hs (hne c), fun _ => rfl, fun _ => ⟨rfl, rfl, rfl⟩⟩
  · obtain ⟨res, p, v, hm⟩ := endSession_moves c .transportFailure u
    rw [heq, hm]
    refine ⟨rfl, rfl, rfl, fun _ => rfl, fun ⟨c', hs'⟩ => ?_, fun hne => absurd hs (hne c)⟩
    exact nomatch hs.symm.trans hs'
  · rw [heq]
    exact ⟨rfl, rfl, rfl, fun _ => rfl, fun ⟨c, hs⟩ => absurd hs (hd c), fun _ => ⟨rfl, rfl, rfl⟩⟩

/-- Settles O45: the framer's instructions, the two chip-select calls and the exchange have their own buffers; every
other instruction writes none. -/
theorem eachBufferHasItsWriters : Obligations.EachBufferHasItsWriters := by
  intro i s t h
  cases i with
  | sel =>
    obtain ⟨hframe, harg, hbuilt, hrsp, -⟩ := execSel_keeps_buffers h
    exact ⟨fun _ => ⟨hframe, harg, hbuilt⟩, fun _ => hrsp, fun hne => absurd rfl hne⟩
  | desel =>
    obtain ⟨hframe, harg, hbuilt, hrsp⟩ := execDesel_keeps_buffers h
    exact ⟨fun _ => ⟨hframe, harg, hbuilt⟩, fun hpos => hrsp fun c => (hpos c).1, fun _ hne => absurd rfl hne⟩
  | xchg out =>
    obtain ⟨hframe, harg, hbuilt, hcs, hrsp⟩ := execXchg_keeps_buffers h
    exact ⟨fun _ => ⟨hframe, harg, hbuilt⟩, fun hpos => hrsp fun c => (hpos c).2, fun _ _ => hcs⟩
  | buildFrame _ _ | cmd0 | cmd8 | cmd55 | acmd41 | cmdN _ _ _ _ =>
    obtain ⟨hrsp, hcs⟩ := exec_rsp_cs_of_buildsFrame rfl h
    exact ⟨nofun, fun _ => hrsp, fun _ _ => hcs⟩
  | _ =>
    obtain ⟨hframe, harg, hbuilt, hrsp, hcs⟩ := exec_storesKept h rfl nofun nofun nofun
    exact ⟨fun _ => ⟨hframe, harg, hbuilt⟩, fun _ => hrsp, fun _ _ => hcs⟩

end Sys2Proof.Machine

/-! Scope: `BRINGUP` depends on the returns and the parameters only (R41, R170). Two blocks that are alike but for what
an earlier operation left stay alike: what was left is overwritten before it is read. -/

namespace Sys2Proof.Machine

variable {s t : State} {b₁ b₂ : List Event} {c : SessionCaller}

/-! ### What an earlier operation leaves -/

/-- `s` with the buffers, `CS`, the shape selected and the record of events of `l`: what an operation finds as an earlier
one left it. -/
def withLeftovers (l s : State) : State :=
  { s with frame := l.frame, arg := l.arg, frameBuilt := l.frameBuilt, rsp := l.rsp, cs := l.cs, shape := l.shape,
           trace := l.trace }

@[simp] theorem withLeftovers_statusCode (l s : State) : (withLeftovers l s).statusCode = s.statusCode := rfl

section Commute

variable (l u : State)

/-! The loops, the verdicts and the end of a session read and write nothing of what was left. -/

theorem preIdleNext_withLeftovers (sent : Nat) :
    preIdleNext sent (withLeftovers l u) = withLeftovers l (preIdleNext sent u) := by
  unfold preIdleNext
  rw [apply_ite (withLeftovers l)]
  rfl

theorem nextAttempt_withLeftovers : nextAttempt (withLeftovers l u) = withLeftovers l (nextAttempt u) := by
  unfold nextAttempt
  rw [apply_ite (withLeftovers l)]
  rfl

theorem nextRound_withLeftovers : nextRound (withLeftovers l u) = withLeftovers l (nextRound u) := by
  unfold nextRound
  rw [apply_ite (withLeftovers l)]
  rfl

theorem afterReset_withLeftovers (o : SessionOutcome) :
    afterReset o (withLeftovers l u) = withLeftovers l (afterReset o u) := by
  cases o with
  | response bytes =>
    simp only [afterReset, nextAttempt_withLeftovers]
    rw [apply_ite (withLeftovers l)]
    rfl
  | timeout => exact nextAttempt_withLeftovers l u
  | transportFailure => rfl

theorem afterPrefix_withLeftovers (o : SessionOutcome) :
    afterPrefix o (withLeftovers l u) = withLeftovers l (afterPrefix o u) := by
  cases o with
  | response bytes =>
    simp only [afterPrefix, nextRound_withLeftovers]
    rw [apply_ite (withLeftovers l)]
    rfl
  | timeout => exact nextRound_withLeftovers l u
  | transportFailure => rfl

theorem afterInit_withLeftovers (o : SessionOutcome) :
    afterInit o (withLeftovers l u) = withLeftovers l (afterInit o u) := by
  cases o with
  | response bytes =>
    simp only [afterInit, nextRound_withLeftovers]
    rw [apply_ite (withLeftovers l)]
    rfl
  | timeout => exact nextRound_withLeftovers l u
  | transportFailure => rfl

theorem endSession_withLeftovers (c : SessionCaller) (o : SessionOutcome) :
    endSession c o (withLeftovers l u) = withLeftovers l (endSession c o u) := by
  cases c with
  | host => rfl
  | reset => exact afterReset_withLeftovers l { u with outcome := some o } o
  | ifcheck => rfl
  | roundPrefix => exact afterPrefix_withLeftovers l { u with outcome := some o } o
  | roundInit => exact afterInit_withLeftovers l { u with outcome := some o } o

theorem nextStep_withLeftovers (st : BringupStep) :
    nextStep st (withLeftovers l u) = withLeftovers l (nextStep st u) := by
  cases st with
  | reset => rfl
  | ifcheck => exact nextRound_withLeftovers l { u with round := 0 }
  | handshake => rfl

theorem afterEpilogue_withLeftovers (st : BringupStep) (r : Reply) :
    afterEpilogue st r (withLeftovers l u) = withLeftovers l (afterEpilogue st r u) := by
  cases hcode : u.statusCode with
  | some code =>
    simp only [afterEpilogue, withLeftovers_statusCode, hcode]
    rfl
  | none =>
    simp only [afterEpilogue, withLeftovers_statusCode, hcode, nextStep_withLeftovers]
    rw [apply_ite (withLeftovers l)]
    rfl

end Commute

/-! ### Blocks that do the same work -/

/-- `t` is `s` but for what was left, and since the records `b₁` and `b₂` both have the same events. -/
structure SameWork (b₁ b₂ : List Event) (s t : State) : Prop where
  work : t = withLeftovers t s
  events : ∃ events, s.trace = b₁ ++ events ∧ t.trace = b₂ ++ events

theorem SameWork.field {α : Type} {field : State → α} (h : SameWork b₁ b₂ s t)
    (hfield : field (withLeftovers t s) = field s) : field t = field s :=
  (congrArg field h.work).trans hfield

/-- An update that treats what was left and the rest apart. -/
theorem SameWork.update {f : State → State} (h : SameWork b₁ b₂ s t)
    (hf : f (withLeftovers t s) = withLeftovers (f t) (f s)) (hs : (f s).trace = s.trace)
    (ht : (f t).trace = t.trace) : SameWork b₁ b₂ (f s) (f t) := by
  obtain ⟨hwork, events, hevents⟩ := h
  exact ⟨(congrArg f hwork).trans hf, events, hs ▸ ht ▸ hevents⟩

/-- A continuation that neither reads nor writes what was left. -/
theorem SameWork.goOn {f : State → State} (h : SameWork b₁ b₂ s t)
    (hf : ∀ l u, f (withLeftovers l u) = withLeftovers l (f u)) : SameWork b₁ b₂ (f s) (f t) := by
  have hkeeps : ∀ u, f u = withLeftovers u (f u) := fun u => hf u u
  refine h.update ?_ (by rw [hkeeps s]; rfl) (by rw [hkeeps t]; rfl)
  rw [hf, hkeeps t]
  rfl

/-! ### Blocks that are alike -/

/-- The positions from `RSP_FILL` to the end of a response. -/
def readsRsp (p : SessionPos) : Bool :=
  match p with
  | .dispatch | .poll | .burst => true
  | _ => false

/-- What has been overwritten at a position: `FRAME` and the shape inside a session, `RSP` after its `RSP_FILL`. -/
def agreesAt (s t : State) : Prop :=
  match s.seq with
  | .session _ p => t.frame = s.frame ∧ t.shape = s.shape ∧ (readsRsp p = true → t.rsp = s.rsp)
  | _ => True

/-- Two blocks do the same work, and agree on all that their position may still read. -/
structure Alike (b₁ b₂ : List Event) (s t : State) : Prop where
  same : SameWork b₁ b₂ s t
  agrees : agreesAt s t

theorem agreesAt_session {p : SessionPos} (hs : s.seq = .session c p) :
    agreesAt s t ↔ t.frame = s.frame ∧ t.shape = s.shape ∧ (readsRsp p = true → t.rsp = s.rsp) := by
  simp only [agreesAt, hs]

theorem agreesAt_of_not_session (h : ∀ c p, s.seq ≠ .session c p) : agreesAt s t := by
  unfold agreesAt
  split
  · next c p hs => exact absurd hs (h c p)
  · trivial

/-- An action keeps two blocks alike if what follows it does. -/
theorem Alike.awaitReply {event : Reply → Event} {goOn : Reply → State → State} (h : Alike b₁ b₂ s t)
    (hgo : ∀ r u v, u.seq = s.seq → Alike b₁ b₂ u v → Alike b₁ b₂ (goOn r u) (goOn r v)) :
    ∃ s' t', awaitReply event goOn s = .next s' ∧ awaitReply event goOn t = .next t' ∧ Alike b₁ b₂ s' t' := by
  have hreplies : t.replies = s.replies := h.same.field (field := State.replies) rfl
  cases hr : s.replies with
  | nil => exact ⟨s, t, awaitReply_nil hr, awaitReply_nil (hreplies.trans hr), h⟩
  | cons r rest =>
    refine ⟨_, _, awaitReply_cons hr, awaitReply_cons (hreplies.trans hr), hgo r _ _ rfl ⟨⟨?_, ?_⟩, h.agrees⟩⟩
    · exact congrArg (fun u : State => { u with replies := rest, trace := t.trace ++ [event r] }) h.same.work
    · obtain ⟨events, hs, ht⟩ := h.same.events
      exact ⟨events ++ [event r], by simp [hs], by simp [ht]⟩

/-! ### Inside a session -/

/-- Two blocks in a session for the same frame and the same shape. -/
structure SessionAlike (b₁ b₂ : List Event) (s t : State) : Prop where
  same : SameWork b₁ b₂ s t
  frame : t.frame = s.frame
  shape : t.shape = s.shape

theorem SessionAlike.goto_session {p : SessionPos} (h : SessionAlike b₁ b₂ s t)
    (hrsp : readsRsp p = true → t.rsp = s.rsp) :
    Alike b₁ b₂ (goto (.session c p) s) (goto (.session c p) t) :=
  ⟨h.same.update rfl rfl rfl, h.frame, h.shape, hrsp⟩

theorem SessionAlike.failSession (h : SessionAlike b₁ b₂ s t) :
    Alike b₁ b₂ (failSession c s) (failSession c t) :=
  h.goto_session nofun

theorem SessionAlike.sessionGoOn {p : SessionPos} (r : Reply) (h : SessionAlike b₁ b₂ s t)
    (hp : readsRsp p = false) : Alike b₁ b₂ (sessionGoOn c p r s) (sessionGoOn c p r t) := by
  unfold Machine.sessionGoOn
  split_ifs
  · exact h.failSession
  · exact h.goto_session fun hr => absurd (hp.symm.trans hr) nofun

theorem SameWork.endSession_alike (o : SessionOutcome) (h : SameWork b₁ b₂ s t) :
    Alike b₁ b₂ (endSession c o s) (endSession c o t) :=
  ⟨h.goOn fun l u => endSession_withLeftovers l u c o, agreesAt_of_not_session (endSession_not_session c o s)⟩

theorem SessionAlike.enterPoll (h : SessionAlike b₁ b₂ s t) (hrsp : t.rsp = s.rsp) :
    Alike b₁ b₂ (enterPoll c s) (enterPoll c t) := by
  have hcnt : t.pollCnt = s.pollCnt := h.same.field (field := State.pollCnt) rfl
  have hparams : t.params = s.params := h.same.field (field := State.params) rfl
  have hbound : (t.pollCnt < pollBound t.params t.shape) = (s.pollCnt < pollBound s.params s.shape) := by
    rw [hcnt, hparams, h.shape]
  unfold Machine.enterPoll
  simp only [hbound]
  split_ifs
  · exact ⟨h.same.update (f := fun u => { u with pollCnt := u.pollCnt + 1, seq := .session c .poll }) rfl rfl rfl,
      h.frame, h.shape, fun _ => hrsp⟩
  · exact h.same.endSession_alike .timeout

/-- The same byte stored at the same place of the same buffer. -/
theorem SessionAlike.storeByte (i : Nat) (v : Byte) (h : SessionAlike b₁ b₂ s t) :
    SessionAlike b₁ b₂ (storeByte i v s) (storeByte i v t) :=
  ⟨h.same.update rfl rfl rfl, h.frame, h.shape⟩

theorem SessionAlike.storeByte_rsp (i : Nat) (v : Byte) (h : SessionAlike b₁ b₂ s t) (hrsp : t.rsp = s.rsp) :
    (Machine.storeByte i v t).rsp = (Machine.storeByte i v s).rsp := by
  simp only [Machine.storeByte_rsp, hrsp, h.shape]

theorem SessionAlike.respond (h : SessionAlike b₁ b₂ s t) (hrsp : t.rsp = s.rsp) :
    Alike b₁ b₂ (respond c s) (respond c t) := by
  unfold Machine.respond
  rw [hrsp, h.shape]
  exact h.same.endSession_alike _

theorem SessionAlike.afterPoll (r : Reply) (h : SessionAlike b₁ b₂ s t) (hrsp : t.rsp = s.rsp) :
    Alike b₁ b₂ (afterPoll c r s) (afterPoll c r t) := by
  have hstored := h.storeByte 0 r.data
  have hrsp' := h.storeByte_rsp 0 r.data hrsp
  unfold Machine.afterPoll
  rw [h.shape]
  split_ifs
  · exact h.failSession
  · exact h.enterPoll hrsp
  · exact hstored.respond hrsp'
  · exact ⟨hstored.same.update (f := fun u => { u with burstIdx := 1, seq := .session c .burst }) rfl rfl rfl,
      hstored.frame, hstored.shape, fun _ => hrsp'⟩

theorem SessionAlike.afterBurst (r : Reply) (hs : s.seq = .session c .burst) (h : SessionAlike b₁ b₂ s t)
    (hrsp : t.rsp = s.rsp) : Alike b₁ b₂ (afterBurst c r s) (afterBurst c r t) := by
  have hidx : t.burstIdx = s.burstIdx := h.same.field (field := State.burstIdx) rfl
  have hstored := h.storeByte s.burstIdx r.data
  have hrsp' := h.storeByte_rsp s.burstIdx r.data hrsp
  unfold Machine.afterBurst
  rw [h.shape, hidx]
  split_ifs
  · exact h.failSession
  · exact ⟨hstored.same.update (f := fun u => { u with burstIdx := s.burstIdx + 1 }) rfl rfl rfl,
      (agreesAt_session (s := { Machine.storeByte s.burstIdx r.data s with burstIdx := s.burstIdx + 1 }) hs).mpr
        ⟨hstored.frame, hstored.shape, fun _ => hrsp'⟩⟩
  · exact hstored.respond hrsp'

/-- What follows an action of a session may use that the blocks are in the same session. -/
theorem Alike.session_awaitReply {event : Reply → Event} {goOn : Reply → State → State} {p : SessionPos}
    (hs : s.seq = .session c p) (h : Alike b₁ b₂ s t)
    (hgo : ∀ r u v, u.seq = .session c p → SessionAlike b₁ b₂ u v → (readsRsp p = true → v.rsp = u.rsp) →
      Alike b₁ b₂ (goOn r u) (goOn r v)) :
    ∃ s' t', Machine.awaitReply event goOn s = .next s' ∧ Machine.awaitReply event goOn t = .next t' ∧
      Alike b₁ b₂ s' t' :=
  h.awaitReply fun r u v hu huv => by
    obtain ⟨hframe, hshape, hrsp⟩ := (agreesAt_session (hu.trans hs)).mp huv.agrees
    exact hgo r u v (hu.trans hs) ⟨huv.same, hframe, hshape⟩ hrsp

/-! ### One step of both -/

theorem session_step_alike {p : SessionPos} (hs : s.seq = .session c p) (h : Alike b₁ b₂ s t) :
    ∃ s' t', step s = .next s' ∧ step t = .next t' ∧ Alike b₁ b₂ s' t' := by
  have ht : t.seq = .session c p := (h.same.field (field := State.seq) rfl).trans hs
  obtain ⟨hframe, hshape, hrsp⟩ := (agreesAt_session hs).mp h.agrees
  cases p with
  | leadIdle =>
    rw [step_leadIdle hs, step_leadIdle ht]
    exact h.session_awaitReply hs fun r _ _ _ huv _ => huv.sessionGoOn r rfl
  | select =>
    rw [step_select hs, step_select ht]
    exact h.session_awaitReply hs fun _ _ _ _ huv _ =>
      ⟨huv.same.update (f := fun u => goto (.session c .settleIdle) (setCs .selected u)) rfl rfl rfl,
        huv.frame, huv.shape, nofun⟩
  | settleIdle =>
    rw [step_settleIdle hs, step_settleIdle ht]
    exact h.session_awaitReply hs fun r _ _ _ huv _ => huv.sessionGoOn r rfl
  | sendFrame =>
    rw [step_sendFrame hs, step_sendFrame ht, hframe]
    exact h.session_awaitReply hs fun r _ _ _ huv _ => huv.sessionGoOn r rfl
  | tailIdle =>
    rw [step_tailIdle hs, step_tailIdle ht]
    exact h.session_awaitReply hs fun r _ _ _ huv _ => huv.sessionGoOn r rfl
  | deselect =>
    rw [step_deselect hs, step_deselect ht]
    exact h.session_awaitReply hs fun _ _ _ _ huv _ =>
      ⟨huv.same.update (f := fun u => goto (.session c .dispatch) (fillRsp (setCs .deselected u))) rfl rfl rfl,
        huv.frame, huv.shape, fun _ => rfl⟩
  | dispatch =>
    have hstart : SessionAlike b₁ b₂ { s with pollCnt := 0 } { t with pollCnt := 0 } :=
      ⟨h.same.update (f := fun u => { u with pollCnt := 0 }) rfl rfl rfl, hframe, hshape⟩
    exact ⟨_, _, step_dispatch hs, step_dispatch ht, hstart.enterPoll (hrsp rfl)⟩
  | poll =>
    rw [step_poll hs, step_poll ht]
    exact h.session_awaitReply hs fun r _ _ _ huv hrsp => huv.afterPoll r (hrsp rfl)
  | burst =>
    rw [step_burst hs, step_burst ht]
    exact h.session_awaitReply hs fun r _ _ hu huv hrsp => huv.afterBurst r hu (hrsp rfl)
  | failDeselect =>
    rw [step_failDeselect hs, step_failDeselect ht]
    exact h.session_awaitReply hs fun _ u v _ huv _ =>
      (huv.same.update (f := setCs .deselected) rfl rfl rfl).endSession_alike .transportFailure

/-- A command builds the same frame over whatever stood in the buffers. -/
theorem startSession_framerBuild_alike {index : BitVec 8} {arg : Arg32} {sh : Shape} (h : SameWork b₁ b₂ s t) :
    Alike b₁ b₂ (startSession c sh (framerBuild index arg s)) (startSession c sh (framerBuild index arg t)) :=
  ⟨h.update (f := fun u => startSession c sh (framerBuild index arg u)) rfl rfl rfl, rfl, rfl, nofun⟩

theorem step_alike (h : Alike b₁ b₂ s t) (hq : s.requests = []) :
    ∃ s' t', step s = .next s' ∧ step t = .next t' ∧ Alike b₁ b₂ s' t' := by
  have hseq : t.seq = s.seq := h.same.field (field := State.seq) rfl
  have hqt : t.requests = [] := (h.same.field (field := State.requests) rfl).trans hq
  cases hs : s.seq with
  | session c p => exact session_step_alike hs h
  | idle => exact ⟨s, t, step_idle_nil hs hq, step_idle_nil (hseq.trans hs) hqt, h⟩
  | done =>
    exact ⟨_, _, step_done hs, step_done (hseq.trans hs), h.same.update rfl rfl rfl, trivial⟩
  | preDeselect =>
    rw [step_preDeselect hs, step_preDeselect (hseq.trans hs)]
    exact h.awaitReply fun _ u _ _ huv =>
      ⟨(huv.same.update (f := setCs .deselected) rfl rfl rfl).goOn fun l u => preIdleNext_withLeftovers l u 0,
        agreesAt_of_not_session (preIdleNext_not_session 0 _)⟩
  | preIdle sent =>
    rw [step_preIdle hs, step_preIdle (hseq.trans hs)]
    refine h.awaitReply fun r u v _ huv => ?_
    split_ifs
    · exact ⟨huv.same.update rfl rfl rfl, trivial⟩
    · exact ⟨huv.same.goOn fun l u => preIdleNext_withLeftovers l u (sent + 1),
        agreesAt_of_not_session (preIdleNext_not_session (sent + 1) u)⟩
  | resetSelect =>
    rw [step_resetSelect hs, step_resetSelect (hseq.trans hs)]
    exact h.awaitReply fun _ u _ _ huv =>
      ⟨(huv.same.update (f := fun u => { setCs .selected u with resetTry := 0 }) rfl rfl rfl).goOn
          nextAttempt_withLeftovers, agreesAt_of_not_session (nextAttempt_not_session _)⟩
  | resetAttempt =>
    have hcount : SameWork b₁ b₂ { s with resetTry := s.resetTry + 1 } { t with resetTry := t.resetTry + 1 } :=
      h.same.update (f := fun u => { u with resetTry := u.resetTry + 1 }) rfl rfl rfl
    exact ⟨_, _, step_resetAttempt hs, step_resetAttempt (hseq.trans hs), startSession_framerBuild_alike hcount⟩
  | ifcheckCommand =>
    exact ⟨_, _, step_ifcheckCommand hs, step_ifcheckCommand (hseq.trans hs), startSession_framerBuild_alike h.same⟩
  | roundPrefix =>
    have hcount : SameWork b₁ b₂ { s with round := s.round + 1 } { t with round := t.round + 1 } :=
      h.same.update (f := fun u => { u with round := u.round + 1 }) rfl rfl rfl
    exact ⟨_, _, step_roundPrefix hs, step_roundPrefix (hseq.trans hs), startSession_framerBuild_alike hcount⟩
  | roundInit =>
    exact ⟨_, _, step_roundInit hs, step_roundInit (hseq.trans hs), startSession_framerBuild_alike h.same⟩
  | epilogueDeselect st =>
    rw [step_epilogueDeselect hs, step_epilogueDeselect (hseq.trans hs)]
    exact h.awaitReply fun _ _ _ _ huv =>
      ⟨huv.same.update (f := fun u => goto (.epilogueIdle st) (setCs .deselected u)) rfl rfl rfl, trivial⟩
  | epilogueIdle st =>
    rw [step_epilogueIdle hs, step_epilogueIdle (hseq.trans hs)]
    exact h.awaitReply fun r u _ _ huv =>
      ⟨huv.same.goOn fun l u => afterEpilogue_withLeftovers l u st r,
        agreesAt_of_not_session (afterEpilogue_not_session st r u)⟩

/-! ### Runs -/

theorem AtMostOneEvent.requests (h : AtMostOneEvent s t) : t.requests = s.requests := by
  obtain h | ⟨_, _, _, _, h⟩ := h
  · exact h.requests
  · exact h.requests

/-- No step adds a request. -/
theorem step_requests_nil (hq : s.requests = []) (h : step s = .next t) : t.requests = [] := by
  obtain ⟨-, rfl⟩ | ⟨-, -, rfl⟩ | ⟨q, rest, i, -, hcons, -, -⟩ | ⟨i, -, hi⟩ := step_cases h
  · exact hq
  · exact hq
  · exact nomatch hq.symm.trans hcons
  · exact (exec_atMostOneEvent hi).requests.trans hq

theorem runSteps_alike (n : Nat) (h : Alike b₁ b₂ s t) (hq : s.requests = []) :
    ∃ s' t', runSteps n s = .next s' ∧ runSteps n t = .next t' ∧ Alike b₁ b₂ s' t' := by
  induction n generalizing s t with
  | zero => exact ⟨s, t, runSteps_zero s, runSteps_zero t, h⟩
  | succ n ih =>
    obtain ⟨s', t', hs, ht, h'⟩ := step_alike h hq
    rw [runSteps_succ hs, runSteps_succ ht]
    exact ih h' (step_requests_nil hq hs)

/-- Settles O60: the two blocks are alike when `BRINGUP` begins, with all of the transient state re-initialised (R41),
and stay alike in every step. -/
theorem bringupDependsOnlyOnRepliesAndParameters : Obligations.BringupDependsOnlyOnRepliesAndParameters := by
  intro s₁ s₂ u₁ u₂ h₁ h₂ hparams hreplies hq₁ hq₂ hu₁ hu₂ n
  obtain rfl := Host.Outcome.next.inj ((exec_bringup_idle h₁).symm.trans hu₁)
  obtain rfl := Host.Outcome.next.inj ((exec_bringup_idle h₂).symm.trans hu₂)
  have hstart : Alike s₁.trace s₂.trace (goto .preDeselect (clearTransient s₁))
      (goto .preDeselect (clearTransient s₂)) :=
    ⟨⟨by simp [withLeftovers, goto, clearTransient, hparams, hreplies, hq₁, hq₂], [], by simp, by simp⟩, trivial⟩
  obtain ⟨t₁, t₂, hrun₁, hrun₂, hsame, -⟩ := runSteps_alike n hstart hq₁
  obtain ⟨events, he₁, he₂⟩ := hsame.events
  exact ⟨t₁, t₂, events, hrun₁, hrun₂, (hsame.field (field := State.seq) rfl).symm,
    (hsame.field (field := State.result) rfl).symm, he₁, he₂⟩

end Sys2Proof.Machine

/-! Scope: the host's read of a buffer byte, by whether the block is idle and the byte has a specified value. -/

namespace Sys2Proof.Machine

variable {s : State} {b : BufferByte}

/-! ### Host reads -/

theorem hostRead_of_busy (h : s.seq ≠ .idle) : hostRead b s = none := if_neg fun hread => h hread.1

theorem hostRead_of_unspecified (h : byteSpecified b s = false) : hostRead b s = none :=
  if_neg fun hread => Bool.false_ne_true (h.symm.trans hread.2)

theorem hostRead_of_specified (hidle : s.seq = .idle) (h : byteSpecified b s = true) :
    hostRead b s = some (readByte b s) := if_pos ⟨hidle, h⟩

/-- `RSP` has a specified value with or without a frame. -/
theorem hostRead_rsp (hidle : s.seq = .idle) :
    (∀ i, hostRead (.status i) s = some s.rsp.status[i]) ∧ (∀ i, hostRead (.busy i) s = some s.rsp.busy[i]) ∧
    (∀ i, hostRead (.status2 i) s = some s.rsp.status2[i]) ∧ (∀ i, hostRead (.ocr i) s = some s.rsp.ocr[i]) ∧
    (∀ i, hostRead (.ifcond i) s = some s.rsp.ifcond[i]) :=
  ⟨fun _ => hostRead_of_specified hidle rfl, fun _ => hostRead_of_specified hidle rfl,
    fun _ => hostRead_of_specified hidle rfl, fun _ => hostRead_of_specified hidle rfl,
    fun _ => hostRead_of_specified hidle rfl⟩

theorem hostRead_frame (hidle : s.seq = .idle) (hbuilt : s.frameBuilt = true) (i : Fin 6) :
    hostRead (.frame i) s = (frameBytes s.frame)[i.val]? :=
  (hostRead_of_specified (b := .frame i) hidle hbuilt).trans (List.getElem?_eq_getElem i.isLt).symm

theorem hostRead_arg (hidle : s.seq = .idle) (hbuilt : s.frameBuilt = true) (i : Fin 4) :
    hostRead (.arg i) s = [s.arg.b0, s.arg.b1, s.arg.b2, s.arg.b3][i.val]? :=
  (hostRead_of_specified (b := .arg i) hidle hbuilt).trans (List.getElem?_eq_getElem i.isLt).symm

/-- No frame is built at reset, so a byte with a specified value is one of `RSP`, filled with `0xFF` (R200). -/
theorem readByte_reset (h : byteSpecified b State.reset = true) : readByte b State.reset = 0xFF#8 := by
  cases b with
  | frame i | arg i => exact absurd h Bool.false_ne_true
  | status i | busy i | status2 i | ocr i | ifcond i => exact Vector.getElem_replicate i.isLt

/-! ### The obligation -/

/-- Settles O46: a host read is of an idle block and a specified byte; `FRAME` and `ARG` are specified by `frameBuilt`,
`RSP` always. -/
theorem hostReadsOnlyTheIdleBlock : Obligations.HostReadsOnlyTheIdleBlock :=
  ⟨fun _ _ hbusy => hostRead_of_busy hbusy,
    fun _ hidle => hostRead_rsp hidle,
    fun _ hidle hbuilt => ⟨hostRead_frame hidle hbuilt, hostRead_arg hidle hbuilt⟩,
    fun _ hunbuilt => ⟨fun _ => hostRead_of_unspecified hunbuilt, fun _ => hostRead_of_unspecified hunbuilt⟩,
    fun _ h => (hostRead_of_specified rfl h).trans (congrArg some (readByte_reset h))⟩

end Sys2Proof.Machine

/-! Scope: the words of each port and back, the fields of a frame word, what a request to a busy block and a reserved
code do, and the shape codes at the dispatcher. -/

namespace Sys2Proof.Machine

variable {s : State}

/-! ### The frame word by its fields -/

/-- With both markers in place a word is its index, argument and CRC bits put together again (R70). -/
theorem commandWord_of_markers {w : BitVec 48} (hstart : wordMarker w = 0b01#2) (hstop : wordStop w = 1#1) :
    commandWord (wordIndex w) (wordArg w) (wordCrc w) = w := by
  rw [commandWord, ← hstart, ← hstop, wordMarker, wordIndex, wordArg, wordCrc, wordStop,
    BitVec.extractLsb'_append_extractLsb'_eq_extractLsb' (show 46 = 40 + 6 from rfl),
    BitVec.extractLsb'_append_extractLsb'_eq_extractLsb' (show 40 = 8 + 32 from rfl),
    BitVec.extractLsb'_append_extractLsb'_eq_extractLsb' (show 8 = 1 + 7 from rfl),
    BitVec.extractLsb'_append_extractLsb'_eq_extractLsb' (show 1 = 0 + 1 from rfl)]
  exact BitVec.extractLsb'_eq_self

theorem wordMarker_eq_iff (w : BitVec 48) : wordMarker w = 0b01#2 ↔ w[47] = false ∧ w[46] = true := by
  constructor
  · intro h
    exact ⟨by simpa [wordMarker] using congrArg (·[1]) h, by simpa [wordMarker] using congrArg (·[0]) h⟩
  · rintro ⟨h47, h46⟩
    ext i hi
    obtain rfl | rfl : i = 0 ∨ i = 1 := by omega
    · simpa [wordMarker] using h46
    · simpa [wordMarker] using h47

theorem wordStop_eq_iff (w : BitVec 48) : wordStop w = 1#1 ↔ w[0] = true := by
  constructor
  · intro h
    simpa [wordStop] using congrArg (·[0]) h
  · intro h0
    ext i hi
    obtain rfl : i = 0 := by omega
    simpa [wordStop] using h0

/-- 32 bits of a word are their four bytes, the high byte first (R55). -/
theorem fourBytes_append {n : Nat} (x : BitVec n) (k : Nat) :
    x.extractLsb' (k + 8 + 8 + 8) 8 ++ x.extractLsb' (k + 8 + 8) 8 ++ x.extractLsb' (k + 8) 8 ++ x.extractLsb' k 8 =
      x.extractLsb' k 32 := by
  rw [BitVec.extractLsb'_append_extractLsb'_eq_extractLsb' rfl,
    BitVec.extractLsb'_append_extractLsb'_eq_extractLsb' rfl, BitVec.extractLsb'_append_extractLsb'_eq_extractLsb' rfl]

theorem argBytes_append (arg : Arg32) : argByte3 arg ++ argByte2 arg ++ argByte1 arg ++ argByte0 arg = arg :=
  (fourBytes_append arg 0).trans BitVec.extractLsb'_eq_self

/-- Below index 64 the command byte is the start marker above the index (R71). -/
theorem commandByte_indexOperand (n : BitVec 6) : commandByte (indexOperand n) = 0b01#2 ++ n := by
  decide +revert

/-- A field of the frame word is a field of the six bytes, appended at widths that add up byte by byte. -/
theorem extractLsb'_frameWord (f : Frame) (start len : Nat) :
    (frameWord f).extractLsb' start len =
      (f.b0 ++ f.b1 ++ f.b2 ++ f.b3 ++ f.b4 ++ f.b5 : BitVec (8 + 8 + 8 + 8 + 8 + 8)).extractLsb' start len := rfl

theorem wordMarker_frameWord (f : Frame) : wordMarker (frameWord f) = f.b0.extractLsb' 6 2 := by
  simp (disch := decide) only [wordMarker, extractLsb'_frameWord, BitVec.extractLsb'_append_eq_of_le, Nat.reduceSub]

theorem wordIndex_frameWord (f : Frame) : wordIndex (frameWord f) = f.b0.extractLsb' 0 6 := by
  simp (disch := decide) only [wordIndex, extractLsb'_frameWord, BitVec.extractLsb'_append_eq_of_le, Nat.reduceSub]

theorem wordArg_frameWord (f : Frame) : wordArg (frameWord f) = f.b1 ++ f.b2 ++ f.b3 ++ f.b4 := by
  have hbytes (w : BitVec 48) :
      wordArg w = w.extractLsb' 32 8 ++ w.extractLsb' 24 8 ++ w.extractLsb' 16 8 ++ w.extractLsb' 8 8 :=
    (fourBytes_append w 8).symm
  simp (disch := decide) only [hbytes, extractLsb'_frameWord, BitVec.extractLsb'_append_eq_of_le,
    BitVec.extractLsb'_append_eq_right, Nat.reduceSub]

theorem wordStop_frameWord (f : Frame) : wordStop (frameWord f) = f.b5.extractLsb' 0 1 := by
  rw [wordStop, extractLsb'_frameWord, BitVec.extractLsb'_append_eq_of_add_le (by decide)]

/-- The word of a built frame has both markers, its index and its argument; only the CRC bits are the framer's (R70,
R110). -/
theorem frameWord_buildFrame (n : BitVec 6) (arg : Arg32) :
    frameWord (buildFrame (indexOperand n) arg) =
      commandWord n arg (wordCrc (frameWord (buildFrame (indexOperand n) arg))) := by
  let f : Frame := buildFrame (indexOperand n) arg
  have hb0 : f.b0 = 0b01#2 ++ n := commandByte_indexOperand n
  have hstart : wordMarker (frameWord f) = 0b01#2 := by
    rw [wordMarker_frameWord, hb0]
    exact BitVec.extractLsb'_append_eq_left
  have hindex : wordIndex (frameWord f) = n := by
    rw [wordIndex_frameWord, hb0]
    exact BitVec.extractLsb'_append_eq_right
  have harg : wordArg (frameWord f) = arg := (wordArg_frameWord f).trans (argBytes_append arg)
  have hb5 : f.b5[0] = true := frameCrcByte_stopBit (indexOperand n) arg
  have hstop : wordStop (frameWord f) = 1#1 := by
    rw [wordStop_frameWord]
    ext i hi
    obtain rfl : i = 0 := by omega
    simpa using hb5
  have h := commandWord_of_markers hstart hstop
  rw [hindex, harg] at h
  exact h.symm

/-- With the CRC bits of the framer a `CMDn` is the word of the frame it builds. -/
theorem frameWord_of_crcBitsMatch {n : BitVec 6} {arg : Arg32} {g : Crc7Value} {code : BitVec 3}
    (h : crcBitsMatch (.cmdN n arg g code) = true) :
    frameWord (buildFrame (indexOperand n) arg) = commandWord n arg g := by
  have hg : g = wordCrc (frameWord (buildFrame (indexOperand n) arg)) := eq_of_beq h
  rw [hg]
  exact frameWord_buildFrame n arg

/-! ### Frame words and the decoder -/

/-- The four commands R91 names. -/
def isNamedWord (w : BitVec 48) : Prop := w = cmd0Word ∨ w = cmd8Word ∨ w = cmd55Word ∨ w = acmd41Word

/-- All a frame word can decode to: a marker is missing, or it has a shape beside it, or it is a named command, or it has
no shape (R70, R91). -/
theorem decodeFrame_cases (w : BitVec 48) (sh : Option (BitVec 3)) :
    (wordMarker w ≠ 0b01#2 ∧ decodeFrame w sh = .error .startMarker) ∨
    (wordMarker w = 0b01#2 ∧ wordStop w ≠ 1#1 ∧ decodeFrame w sh = .error .stopMarker) ∨
    (wordMarker w = 0b01#2 ∧ wordStop w = 1#1 ∧ (sh ≠ none ∨ isNamedWord w) ∧
      ∃ i, decodeFrame w sh = .ok i ∧ encode i = .frame w sh) ∨
    (wordMarker w = 0b01#2 ∧ wordStop w = 1#1 ∧ sh = none ∧ ¬isNamedWord w ∧ decodeFrame w sh = .error .noShape) := by
  by_cases hstart : wordMarker w = 0b01#2
  · by_cases hstop : wordStop w = 1#1
    · cases sh with
      | some code =>
        refine .inr (.inr (.inl ⟨hstart, hstop, .inl nofun, ?_⟩))
        refine ⟨.cmdN (wordIndex w) (wordArg w) (wordCrc w) code, by simp [decodeFrame, hstart, hstop], ?_⟩
        rw [encode, commandWord_of_markers hstart hstop]
      | none =>
        by_cases hnamed : isNamedWord w
        · refine .inr (.inr (.inl ⟨hstart, hstop, .inr hnamed, ?_⟩))
          obtain rfl | rfl | rfl | rfl := hnamed
          · exact ⟨.cmd0, Laws.RoundTrip.cmd0, rfl⟩
          · exact ⟨.cmd8, Laws.RoundTrip.cmd8, rfl⟩
          · exact ⟨.cmd55, Laws.RoundTrip.cmd55, rfl⟩
          · exact ⟨.acmd41, Laws.RoundTrip.acmd41, rfl⟩
        · refine .inr (.inr (.inr ⟨hstart, hstop, rfl, hnamed, ?_⟩))
          simp only [isNamedWord, not_or] at hnamed
          simp [decodeFrame, hstart, hstop, hnamed]
    · exact .inr (.inl ⟨hstart, hstop, by simp [decodeFrame, hstart, hstop]⟩)
  · exact .inl ⟨hstart, by simp [decodeFrame, hstart]⟩

theorem encode_of_decodeFrame {w : BitVec 48} {sh : Option (BitVec 3)} {i : Instr} (h : decodeFrame w sh = .ok i) :
    encode i = .frame w sh := by
  obtain ⟨-, herr⟩ | ⟨-, -, herr⟩ | ⟨-, -, -, j, hok, henc⟩ | ⟨-, -, -, -, herr⟩ := decodeFrame_cases w sh
  · exact nomatch herr.symm.trans h
  · exact nomatch herr.symm.trans h
  · exact Except.ok.inj (hok.symm.trans h) ▸ henc
  · exact nomatch herr.symm.trans h

/-! ### Short codes and the decoder -/

theorem encode_decodeShape (c : BitVec 3) : encode (decodeShape c) = .shape c := by
  decide +revert

theorem encode_decodeAct (c : BitVec 2) (out : Byte) (f : Frame) :
    ∃ out' f', encode (decodeAct c out f) = .act c out' f' := by
  obtain rfl | rfl | rfl | rfl : c = 0#2 ∨ c = 1#2 ∨ c = 2#2 ∨ c = 3#2 := by decide +revert
  · exact ⟨0#8, zeroFrame, rfl⟩
  · exact ⟨0#8, zeroFrame, rfl⟩
  · exact ⟨out, zeroFrame, rfl⟩
  · exact ⟨0#8, f, rfl⟩

theorem encode_decodeHost (l : HostLines) : ∃ l', encode (decodeHost l) = .host l' ∧ l'.op = l.op := by
  obtain ⟨op, shape, index, arg, bytes⟩ := l
  have hop : op = 0#3 ∨ op = 1#3 ∨ op = 2#3 ∨ op = 3#3 ∨ op = 4#3 ∨ op = 5#3 ∨ op = 6#3 ∨ op = 7#3 := by
    decide +revert
  obtain rfl | rfl | rfl | rfl | rfl | rfl | rfl | rfl := hop <;> exact ⟨_, rfl, rfl⟩

/-! ### Requests that have no effect -/

theorem shapeOfCode_reserved {c : BitVec 3} (h : 5 ≤ c.toNat) : shapeOfCode c = none := by
  decide +revert

theorem exec_crc7_busy (bytes : List Byte) (hs : s.seq ≠ .idle) : exec (.crc7 bytes) s = .next s := by
  rw [exec, execCrc7, accept_busy hs]

theorem exec_crc16_busy (bytes : List Byte) (hs : s.seq ≠ .idle) : exec (.crc16 bytes) s = .next s := by
  rw [exec, execCrc16, accept_busy hs]

theorem exec_buildFrame_busy (index : BitVec 8) (arg : Arg32) (hs : s.seq ≠ .idle) :
    exec (.buildFrame index arg) s = .next s := by
  rw [exec, execBuildFrame, buildFrameRequest, accept_busy hs]

theorem exec_bringup_busy (hs : s.seq ≠ .idle) : exec .bringup s = .next s := by
  rw [exec, execBringup, accept_busy hs]

theorem exec_sendCommand_busy (code : BitVec 3) (hs : s.seq ≠ .idle) : exec (.sendCommand code) s = .next s := by
  cases hc : shapeOfCode code with
  | none => exact exec_sendCommand_reserved s hc
  | some sh =>
    cases hb : s.frameBuilt with
    | false => simp [exec, execSendCommand, hc, hb]
    | true => simp [exec, execSendCommand, hc, hb, accept_busy hs]

/-- A step of a block at work executes what its sequencer issues, which takes no request, or returns the code. -/
theorem step_requests_of_busy {t : State} (hs : s.seq ≠ .idle) (h : step s = .next t) : t.requests = s.requests := by
  obtain ⟨-, rfl⟩ | ⟨hidle, -⟩ | ⟨_, _, _, hidle, -⟩ | ⟨i, -, hi⟩ := step_cases h
  · exact returnStatus_requests s
  · exact absurd hidle hs
  · exact absurd hidle hs
  · exact (exec_atMostOneEvent hi).requests

theorem ne_idle_of_commandCaller_none (hc : commandCaller s.seq = none) : s.seq ≠ .idle := by
  intro hs
  rw [hs] at hc
  exact nomatch hc

theorem issueCommand_of_no_caller {index : BitVec 8} {arg : Arg32} {sh : Shape} (hc : commandCaller s.seq = none) :
    issueCommand index arg sh s = .next s := by
  simp [issueCommand, hc]

/-! ### The two requests of a command line -/

theorem exec_cmdN_of_shape {n : BitVec 6} {arg : Arg32} {g : Crc7Value} {code : BitVec 3} {sh : Shape}
    (hc : shapeOfCode code = some sh) : exec (.cmdN n arg g code) s = issueCommand (indexOperand n) arg sh s := by
  simp only [exec, execCmdN, hc]

theorem exec_cmdN_reserved {n : BitVec 6} {arg : Arg32} {g : Crc7Value} {code : BitVec 3}
    (hc : shapeOfCode code = none) : exec (.cmdN n arg g code) s = exec (.buildFrame (indexOperand n) arg) s := by
  simp only [exec, execCmdN, hc, execBuildFrame]

/-- On the idle block a command line is its two requests, one after the other (R91). -/
theorem exec_cmdN_eq_sendCommand {n : BitVec 6} {arg : Arg32} {g : Crc7Value} {code : BitVec 3} {u : State}
    (hs : s.seq = .idle) (hu : exec (.buildFrame (indexOperand n) arg) s = .next u) :
    exec (.cmdN n arg g code) s = exec (.sendCommand code) u := by
  cases hc : shapeOfCode code with
  | none => rw [exec_cmdN_reserved hc, hu, exec_sendCommand_reserved u hc]
  | some sh =>
    have heq := Host.Outcome.next.inj ((exec_buildFrame_idle (indexOperand n) arg hs).symm.trans hu)
    have hidle : u.seq = .idle := heq ▸ hs
    have hbuilt : u.frameBuilt = true := heq ▸ rfl
    rw [exec_cmdN_of_shape hc, issueCommand_idle hs, exec_sendCommand_idle hidle hc hbuilt, ← heq]
    rfl

/-! ### Shape codes at the dispatcher -/

/-- At the entry to step 5 the poll begins with the shape given (R131, R140). -/
theorem dispatchShape_poll {c : SessionCaller} {sh : Shape} (hs : s.seq = .session c .dispatch)
    (hbound : 0 < pollBound s.params sh) :
    dispatchShape sh s = .next { s with shape := sh, pollCnt := 1, seq := .session c .poll } := by
  simp [dispatchShape, enterPoll, hs, hbound]

/-- With a bound of 0 a session of the host has timed out before its first poll (R137). -/
theorem dispatchShape_timeout {sh : Shape} (hs : s.seq = .session .host .dispatch)
    (hbound : pollBound s.params sh = 0) :
    dispatchShape sh s = .next
      { s with
        shape := sh, pollCnt := 0, seq := .idle, outcome := some .timeout, result := some (.outcome .timeout) } := by
  simp [dispatchShape, enterPoll, endSession, hs, hbound]

theorem dispatchShape_idle {sh : Shape} (hs : s.seq = .idle) : dispatchShape sh s = .next { s with shape := sh } := by
  simp [dispatchShape, hs]

theorem dispatchShape_elsewhere {sh : Shape} (hidle : s.seq ≠ .idle) (hdispatch : ∀ c, s.seq ≠ .session c .dispatch) :
    dispatchShape sh s = .next s := by
  unfold dispatchShape
  split
  · next hs => exact absurd hs hidle
  · next c hs => exact absurd hs (hdispatch c)
  · rfl

/-! ### The obligations -/

/-- Settles O1: by the round trip of each row, a table row of its own for every constructor. -/
theorem decodeEncodeGivesInstructionBack : Obligations.DecodeEncodeGivesInstructionBack := by
  intro i
  cases i with
  | crc7 bytes => exact Laws.RoundTrip.crc7 bytes
  | crc16 bytes => exact Laws.RoundTrip.crc16 bytes
  | buildFrame index arg => exact Laws.RoundTrip.buildFrame index arg
  | sendCommand shape => exact Laws.RoundTrip.sendCommand shape
  | bringup => exact Laws.RoundTrip.bringup
  | opReserved000 => exact Laws.RoundTrip.opReserved000
  | opReserved110 => exact Laws.RoundTrip.opReserved110
  | opReserved111 => exact Laws.RoundTrip.opReserved111
  | shapeStatus => exact Laws.RoundTrip.shapeStatus
  | shapeBusy => exact Laws.RoundTrip.shapeBusy
  | shapeStatus2 => exact Laws.RoundTrip.shapeStatus2
  | shapeOcr => exact Laws.RoundTrip.shapeOcr
  | shapeIfcond => exact Laws.RoundTrip.shapeIfcond
  | shapeReserved101 => exact Laws.RoundTrip.shapeReserved101
  | shapeReserved110 => exact Laws.RoundTrip.shapeReserved110
  | shapeReserved111 => exact Laws.RoundTrip.shapeReserved111
  | desel => exact Laws.RoundTrip.desel
  | sel => exact Laws.RoundTrip.sel
  | xchg out => exact Laws.RoundTrip.xchg out
  | xmit bytes => exact Laws.RoundTrip.xmit bytes
  | cmd0 => exact Laws.RoundTrip.cmd0
  | cmd8 => exact Laws.RoundTrip.cmd8
  | cmd55 => exact Laws.RoundTrip.cmd55
  | acmd41 => exact Laws.RoundTrip.acmd41
  | cmdN n arg g shape => exact Laws.RoundTrip.cmdN n arg g shape

/-- Settles O2: port by port; a frame word is put together again from its fields or is the word of a named command. -/
theorem encodeKeepsEveryDecodedWord : Obligations.EncodeKeepsEveryDecodedWord := by
  refine ⟨fun w sh i h => encode_of_decodeFrame h, fun c i h => ?_, fun c out f i h => ?_, fun l i h => ?_⟩
  · exact Except.ok.inj h ▸ encode_decodeShape c
  · exact Except.ok.inj h ▸ encode_decodeAct c out f
  · exact Except.ok.inj h ▸ encode_decodeHost l

/-- Settles O3: each of the four outcomes of a frame word has its own condition, and no two conditions meet. -/
theorem frameWordNeedsItsMarkers : Obligations.FrameWordNeedsItsMarkers := by
  intro w sh named
  have hnamed : isNamedWord w ↔ named := Iff.rfl
  have h0 : w[0] = false ↔ wordStop w ≠ 1#1 := by rw [Ne, wordStop_eq_iff, Bool.not_eq_true]
  simp only [decode, ← and_assoc, ← wordMarker_eq_iff, ← wordStop_eq_iff, h0, ← hnamed]
  obtain ⟨hstart, h⟩ | ⟨hstart, hstop, h⟩ | ⟨hstart, hstop, hshape, i, h, -⟩ | ⟨hstart, hstop, rfl, hother, h⟩ :=
    decodeFrame_cases w sh
  · simp [h, hstart]
  · simp [h, hstart, hstop]
  · simpa [h, hstart, hstop, hshape] using or_iff_not_imp_left.mp hshape
  · simp [h, hstart, hstop, hother]

/-- Settles O16: both requests of the pair on the idle block; the named commands are the pair with the shape code the
table gives them, wherever the block stands. -/
theorem cmdNBuildsItsFrameAndStarts : Obligations.CmdNBuildsItsFrameAndStarts := by
  refine ⟨fun n arg g code s hs => ?_, fun g s => ⟨rfl, rfl, rfl, rfl⟩, fun n arg g code sh s hs hc => ?_⟩
  · have hu := exec_buildFrame_idle (indexOperand n) arg hs
    exact ⟨_, hu, rfl, exec_cmdN_eq_sendCommand hs hu, fun hc => (exec_cmdN_reserved hc).trans hu⟩
  · exact ⟨_, (exec_cmdN_of_shape hc).trans (issueCommand_idle hs), rfl, rfl, rfl, rfl, rfl, rfl, rfl, rfl, rfl, rfl, rfl,
      rfl, rfl, frameWord_of_crcBitsMatch⟩

/-- Settles O28: a shape's row gives the dispatcher that shape, whose length and bound are the row's. -/
theorem shapeCodesStartThePoll : Obligations.ShapeCodesStartThePoll := by
  intro i sh len bound hrow
  obtain ⟨rfl, rfl, rfl⟩ : i = shapeInstr sh ∧ len = shapeLength sh ∧ bound = (pollBound · sh) := by
    obtain h | h | h | h | h := hrow <;> cases h <;> exact ⟨rfl, rfl, rfl⟩
  refine ⟨rfl, fun s => ?_⟩
  rw [exec_shapeInstr]
  exact ⟨fun _ hs hbound => dispatchShape_poll hs hbound, fun hs hbound => dispatchShape_timeout hs hbound,
    dispatchShape_idle, dispatchShape_elsewhere⟩

/-- Settles O42: the operations by the handshake, the command lines by the position, which sends none. -/
theorem busyBlockAcceptsNoRequest : Obligations.BusyBlockAcceptsNoRequest := by
  refine ⟨fun s hs => ⟨fun bytes => ⟨exec_crc7_busy bytes hs, exec_crc16_busy bytes hs⟩,
    fun index arg => exec_buildFrame_busy index arg hs, fun code => exec_sendCommand_busy code hs,
    exec_bringup_busy hs, fun t h => step_requests_of_busy hs h⟩, fun s hc => ?_⟩
  have hs : s.seq ≠ .idle := ne_idle_of_commandCaller_none hc
  refine ⟨hs, issueCommand_of_no_caller hc, issueCommand_of_no_caller hc, issueCommand_of_no_caller hc,
    issueCommand_of_no_caller hc, fun n arg g code => ?_⟩
  cases hcode : shapeOfCode code with
  | none => exact (exec_cmdN_reserved hcode).trans (exec_buildFrame_busy _ arg hs)
  | some sh => exact (exec_cmdN_of_shape hcode).trans (issueCommand_of_no_caller hc)

/-- Settles O4: each written-out packet is its instruction's own, so its row's round trip applies; the two table words are
evaluated. -/
theorem writtenOutWordsDecode : Obligations.WrittenOutWordsDecode :=
  ⟨Laws.RoundTrip.cmd0, Laws.RoundTrip.cmd8, Laws.RoundTrip.cmdN 58#6 0#32 0x7E#7 3#3,
    Laws.RoundTrip.cmdN 41#6 0x40000000#32 0x3B#7 3#3, Laws.RoundTrip.shapeIfcond, Laws.RoundTrip.xchg 0xFF#8,
    by decide, by decide⟩

/-- Settles O5: each reserved code has its row, and refusing a request leaves the state. -/
theorem reservedOperationCodesAreRefused : Obligations.ReservedOperationCodesAreRefused := by
  refine ⟨fun l hl => ?_, fun l hl => ?_, fun l hl => ?_, fun s => ?_⟩
  · simp [decode, decodeHost, hl]
  · simp [decode, decodeHost, hl]
  · simp [decode, decodeHost, hl]
  · exact ⟨refuseRequest_eq s, refuseRequest_eq s, refuseRequest_eq s⟩

/-- Settles O6: the eight codes by the round trip of their rows; the codes from 5 on select no shape. -/
theorem shapeCodesSelectAndReservedOnesAreRefused : Obligations.ShapeCodesSelectAndReservedOnesAreRefused :=
  ⟨Laws.RoundTrip.shapeStatus, Laws.RoundTrip.shapeBusy, Laws.RoundTrip.shapeStatus2, Laws.RoundTrip.shapeOcr,
    Laws.RoundTrip.shapeIfcond, Laws.RoundTrip.shapeReserved101, Laws.RoundTrip.shapeReserved110,
    Laws.RoundTrip.shapeReserved111, fun s => ⟨refuseRequest_eq s, refuseRequest_eq s, refuseRequest_eq s⟩,
    fun _ s hc => exec_sendCommand_reserved s (shapeOfCode_reserved hc)⟩

/-- Settles O14: the literal by the index for any argument; the engine's bytes are evaluated. -/
theorem fixedCrcLiteralIsSelectedByIndexAlone : Obligations.FixedCrcLiteralIsSelectedByIndexAlone := by
  refine ⟨fun arg => ⟨frameCrcByte_eq 0#8 arg, frameCrcByte_eq 8#8 arg, frameCrcByte_eq 55#8 arg⟩, ?_, ?_, ?_⟩
  · decide +kernel
  · decide +kernel
  · decide +kernel

/-- Settles O40: the five codes case by case. -/
theorem statusCodesAreDistinct : Obligations.StatusCodesAreDistinct := by
  refine ⟨fun a b => ?_, fun a => ?_, rfl, rfl, rfl, rfl, rfl⟩
  · cases a <;> cases b <;> decide
  · cases a <;> decide

end Sys2Proof.Machine

/-! Scope: the CRC engine. Both computations are linear over XOR, so one byte's linearity carries to every message; the
residues and the 8-bit register are facts of one step carried along a byte. -/

namespace Sys2Proof.Machine

/-! ### Folds over a message -/

/-- A fold whose step is linear over XOR is linear in the start and the message together. -/
theorem foldl_zipWith_xor {w : Nat} {f : BitVec w → Byte → BitVec w}
    (hf : ∀ r q b c, f (r ^^^ q) (b ^^^ c) = f r b ^^^ f q c) {x y : List Byte} (hlen : x.length = y.length)
    (r q : BitVec w) :
    (List.zipWith (fun a b => a ^^^ b) x y).foldl f (r ^^^ q) = x.foldl f r ^^^ y.foldl f q := by
  induction x generalizing y r q with
  | nil =>
    obtain rfl := List.eq_nil_of_length_eq_zero hlen.symm
    rfl
  | cons b x ih =>
    obtain ⟨c, y, rfl⟩ := List.exists_cons_of_length_eq_add_one hlen.symm
    simp only [List.zipWith_cons_cons, List.foldl_cons, hf, ih (Nat.succ.inj hlen)]

theorem foldl_replicate_of_fixed {α β : Type} {f : α → β → α} {a : α} {b : β} (h : f a b = a) (n : Nat) :
    (List.replicate n b).foldl f a = a := by
  induction n with
  | zero => rfl
  | succ n ih => rw [List.replicate_succ, List.foldl_cons, h, ih]

/-! ### CRC-7 -/

theorem crc7Byte_xor (r q : Crc7Value) (b c : Byte) :
    crc7Byte (r ^^^ q) (b ^^^ c) = crc7Byte r b ^^^ crc7Byte q c := by
  simp only [crc7Byte, bitsMsbFirst, List.foldl_cons, List.foldl_nil, BitVec.getElem_xor, crc7Bit_xor]

/-- R103 item 4. -/
theorem crc7_xor {x y : List Byte} (hlen : x.length = y.length) :
    crc7 (List.zipWith (fun a b => a ^^^ b) x y) = crc7 x ^^^ crc7 y :=
  foldl_zipWith_xor crc7Byte_xor hlen 0#7 0#7

/-- R103 item 5. -/
theorem crc7_append (x y : List Byte) : crc7 (x ++ y) = crc7From (crc7 x) y := crc7From_append 0#7 x y

theorem crc7_replicate_zero (n : Nat) : crc7 (List.replicate n 0x00#8) = 0#7 :=
  foldl_replicate_of_fixed (f := crc7Byte) (by decide) n

/-- The feedback is 0 when the message bit is the register's own top bit. -/
theorem crc7Bit_topBit (r : Crc7Value) : crc7Bit r r[6] = r <<< 1 := by simp [crc7Bit]

/-- A register is shifted out by its own bits, top bit first: after `k` of them bit `j = 6 - k` is the top bit. -/
theorem crc7Bit_shiftLeft (r : Crc7Value) {j k : Nat} (hjk : j + k = 6) :
    crc7Bit (r <<< k) (r[j]'(by omega)) = r <<< (k + 1) := by
  obtain rfl : j = 6 - k := by omega
  have htop : r[6 - k] = (r <<< k)[6] := by
    rw [BitVec.getElem_shiftLeft]
    simp [show ¬ 6 < k by omega]
  rw [htop, crc7Bit_topBit, BitVec.shiftLeft_add]

theorem bitsMsbFirst_packCrc (r : Crc7Value) :
    bitsMsbFirst (packCrc r) = [r[6], r[5], r[4], r[3], r[2], r[1], r[0], true] := by
  simp [bitsMsbFirst, packCrc]

/-- A register's own packed value brings it to 0, and the stop bit then gives the polynomial (R103 item 6). -/
theorem crc7Byte_packCrc (r : Crc7Value) : crc7Byte r (packCrc r) = 0x09#7 := by
  have hout : r <<< 7 = 0#7 := BitVec.shiftLeft_eq_zero le_rfl
  simp (disch := decide) only [crc7Byte, bitsMsbFirst_packCrc, List.foldl_cons, List.foldl_nil, crc7Bit_topBit,
    crc7Bit_shiftLeft, Nat.reduceAdd]
  rw [hout]
  decide

theorem frameBytes_buildFrame (index : BitVec 8) (arg : Arg32) :
    frameBytes (buildFrame index arg) = frameHead index arg ++ [frameCrcByte index arg] := rfl

theorem crc7_frameBytes_of_computed {index : BitVec 8} {arg : Arg32}
    (hcrc : frameCrcByte index arg = packCrc (crc7 (frameHead index arg))) :
    crc7 (frameBytes (buildFrame index arg)) = 0x09#7 := by
  rw [frameBytes_buildFrame, crc7_append, hcrc, crc7From, List.foldl_cons, List.foldl_nil, crc7Byte_packCrc]

/-! ### CRC-7 in the 8-bit register -/

/-- Bit 7 of the 8-bit register is never read: without it a step is that of the 7-bit register (R101). -/
theorem setWidth_crc7WideBit (reg : BitVec 8) (m : Bool) :
    (crc7WideBit reg m).setWidth 7 = crc7Bit (reg.setWidth 7) m := by
  have htop : (reg.setWidth 7)[6] = reg[6] := by simp
  have hshift : (reg <<< 1).setWidth 7 = reg.setWidth 7 <<< 1 := by ext; simp
  unfold crc7WideBit crc7Bit
  rw [htop]
  split
  · rw [BitVec.setWidth_xor, hshift]; rfl
  · exact hshift

/-- The mask `0x7F` keeps the low seven bits. -/
theorem and_mask_eq_zeroExtend (v : BitVec 8) : v &&& 0x7F#8 = (v.setWidth 7).zeroExtend 8 := by
  apply BitVec.eq_of_toNat_eq
  have hfits : v.toNat % 128 < 256 := by omega
  simpa [Nat.mod_eq_of_lt hfits] using Nat.and_two_pow_sub_one_eq_mod v.toNat 7

theorem crc7Wide_eq (bytes : List Byte) : crc7Wide bytes = (crc7 bytes).zeroExtend 8 := by
  have hbyte : ∀ (reg : BitVec 8) (b : Byte),
      crc7Byte (reg.setWidth 7) b = ((bitsMsbFirst b).foldl crc7WideBit reg).setWidth 7 :=
    fun reg b => List.foldl_hom (BitVec.setWidth 7) (init := reg) fun r m => (setWidth_crc7WideBit r m).symm
  rw [crc7Wide, and_mask_eq_zeroExtend]
  congr 1
  exact (List.foldl_hom (BitVec.setWidth 7) hbyte).symm

/-! ### CRC-16 -/

/-- One shift, with the feedback as a term of its own. -/
theorem crc16Shift_eq (reg : Crc16Value) :
    crc16Shift reg = reg <<< 1 ^^^ if reg[15] then Config.crc16Poly else 0#16 := by
  unfold crc16Shift
  split <;> simp

theorem crc16Shift_of_top_clear {reg : Crc16Value} (h : reg[15] = false) : crc16Shift reg = reg <<< 1 := by
  simp [crc16Shift, h]

theorem crc16Shift_xor (r q : Crc16Value) : crc16Shift (r ^^^ q) = crc16Shift r ^^^ crc16Shift q := by
  have hfeedback : (if (r ^^^ q)[15] then Config.crc16Poly else 0#16) =
      (if r[15] then Config.crc16Poly else 0#16) ^^^ (if q[15] then Config.crc16Poly else 0#16) := by
    rw [BitVec.getElem_xor]
    cases r[15] <;> cases q[15] <;> simp
  rw [crc16Shift_eq, crc16Shift_eq, crc16Shift_eq, hfeedback, BitVec.shiftLeft_xor_distrib]
  ac_rfl

theorem highByte_xor (b c : Byte) : highByte (b ^^^ c) = highByte b ^^^ highByte c := by
  simp only [highByte, BitVec.truncate_eq_setWidth, BitVec.setWidth_xor, BitVec.shiftLeft_xor_distrib]

theorem crc16Byte_xor (r q : Crc16Value) (b c : Byte) :
    crc16Byte (r ^^^ q) (b ^^^ c) = crc16Byte r b ^^^ crc16Byte q c := by
  have hiter : Function.Semiconj₂ crc16Shift^[8] (· ^^^ ·) (· ^^^ ·) := Function.Semiconj₂.iterate crc16Shift_xor 8
  have hin : (r ^^^ q) ^^^ highByte (b ^^^ c) = (r ^^^ highByte b) ^^^ (q ^^^ highByte c) := by
    rw [highByte_xor]; ac_rfl
  rw [crc16Byte, hin]
  exact hiter _ _

/-- R106, linearity. -/
theorem crc16_xor {x y : List Byte} (hlen : x.length = y.length) :
    crc16 (List.zipWith (fun a b => a ^^^ b) x y) = crc16 x ^^^ crc16 y :=
  foldl_zipWith_xor crc16Byte_xor hlen 0#16 0#16

/-- R106, streaming. -/
theorem crc16_append (x y : List Byte) : crc16 (x ++ y) = crc16From (crc16 x) y := crc16From_append 0#16 x y

theorem crc16_replicate_zero (n : Nat) : crc16 (List.replicate n 0x00#8) = 0#16 :=
  foldl_replicate_of_fixed (f := crc16Byte) (by decide) n

/-- Up to eight shifts move a low byte up without feedback. -/
theorem crc16Shift_iterate_byte (b : Byte) {k : Nat} (hk : k ≤ 8) :
    crc16Shift^[k] (b.zeroExtend 16) = b.zeroExtend 16 <<< k := by
  induction k with
  | zero => simp
  | succ k ih =>
    have htop : (b.zeroExtend 16 <<< k)[15] = false := by
      simpa using fun _ => BitVec.getLsbD_of_ge b (15 - k) (by omega)
    rw [Function.iterate_succ_apply', ih (by omega), crc16Shift_of_top_clear htop, BitVec.shiftLeft_add]

/-- The high byte cancels against itself and the low byte is left. -/
theorem xor_highByte_high (r : Crc16Value) :
    r ^^^ highByte (r.extractLsb' 8 8) = (r.extractLsb' 0 8).zeroExtend 16 := by
  ext i hi
  by_cases hlow : i < 8
  · simp [highByte, hlow, BitVec.getLsbD_eq_getElem hi]
  · have hback : 8 + (i - 8) = i := by omega
    simp [highByte, hlow, hback, show i - 8 < 8 by omega, BitVec.getLsbD_eq_getElem hi]

/-- The high byte of the register, as a message byte, leaves the low byte in its place. -/
theorem crc16Byte_high (r : Crc16Value) : crc16Byte r (r.extractLsb' 8 8) = highByte (r.extractLsb' 0 8) := by
  rw [crc16Byte, xor_highByte_high, crc16Shift_iterate_byte _ le_rfl, highByte]

theorem crc16Byte_highByte (b : Byte) : crc16Byte (highByte b) b = 0#16 := by
  rw [crc16Byte, BitVec.xor_self]
  decide

/-- Appending a register's two bytes, high byte first, clears it (R106, residue). -/
theorem crc16From_own_bytes (r : Crc16Value) : crc16From r [r.extractLsb' 8 8, r.extractLsb' 0 8] = 0#16 := by
  simp only [crc16From, List.foldl_cons, List.foldl_nil, crc16Byte_high, crc16Byte_highByte]

/-! ### The obligations -/

/-- Settles O7: the known answers are evaluated; an index without a literal carries the computed CRC byte, which has the
residue. -/
theorem crc7HasItsSixProperties : Obligations.Crc7HasItsSixProperties := by
  refine ⟨rfl, by decide +kernel, by decide +kernel, fun x y => crc7_xor, crc7_append, fun index arg h0 h8 h55 => ?_⟩
  apply crc7_frameBytes_of_computed
  rw [frameCrcByte_eq, if_neg h0, if_neg h8, if_neg h55]

/-- Settles O8: the low seven bits of the 8-bit register are the 7-bit register at every message bit. -/
theorem wideRegisterCrc7IsTheSame : Obligations.WideRegisterCrc7IsTheSame := crc7Wide_eq

/-- Settles O9: linearity and streaming of the engine, and the register's own bytes clear it. -/
theorem crc16HasItsProperties : Obligations.Crc16HasItsProperties :=
  ⟨rfl, fun _ _ => crc16_xor, crc16_append, fun x => (crc16_append x _).trans (crc16From_own_bytes (crc16 x))⟩

/-- Settles O10: zero bytes leave the initial register, and the rest of the message continues from it. -/
theorem leadingZeroBytesChangeNoCrc : Obligations.LeadingZeroBytesChangeNoCrc := by
  refine fun n x => ⟨?_, ?_⟩
  · rw [crc7_append, crc7_replicate_zero, crc7]
  · rw [crc16_append, crc16_replicate_zero, crc16]

end Sys2Proof.Machine

/-! Scope: the layout of a built frame, for an index in six bits. -/

namespace Sys2Proof.Machine

/-- An index below 64 is the operand of its low six bits (R71). -/
theorem indexOperand_extractLsb' {index : BitVec 8} (hidx : index.toNat < 64) :
    indexOperand (index.extractLsb' 0 6) = index := by
  apply BitVec.eq_of_toNat_eq
  have hfits : index.toNat % 64 = index.toNat := Nat.mod_eq_of_lt hidx
  simpa [indexOperand, hfits] using hidx.trans (by decide : 64 < 256)

/-- Below index 64 the command byte is the start marker above the low six bits of the index (R71). -/
theorem commandByte_eq_append {index : BitVec 8} (hidx : index.toNat < 64) :
    commandByte index = 0b01#2 ++ index.extractLsb' 0 6 :=
  (congrArg commandByte (indexOperand_extractLsb' hidx)).symm.trans (commandByte_indexOperand _)

/-- Settles O13: byte 0 is the start marker above the index, bytes 1 to 4 put the argument together again, and every
CRC byte ends in the stop bit. -/
theorem frameMeetsItsInvariants : Obligations.FrameMeetsItsInvariants := by
  intro index arg hidx
  have hb0 : (buildFrame index arg).b0 = 0b01#2 ++ index.extractLsb' 0 6 := commandByte_eq_append hidx
  refine ⟨rfl, ?marker, ?index, frameCrcByte_stopBit index arg, argBytes_append arg⟩
  case marker =>
    rw [hb0]
    exact BitVec.extractLsb'_append_eq_left
  case index =>
    rw [hb0]
    exact BitVec.extractLsb'_append_eq_right

end Sys2Proof.Machine

/-! Scope: the byte-times an operation may still spend (R135, R169). What a step spends is taken from its bound, so a
run never spends more than the bound it began with. -/

namespace Sys2Proof.Machine

variable {s t : State} {c : SessionCaller} {p : SessionPos}

/-! ### The budget -/

/-- Byte-times spent and, at most, still to be spent. -/
def byteBudget (s : State) : Nat := byteTimes s.trace + bytesLeft s

theorem byteTimes_snoc (l : List Event) (e : Event) : byteTimes (l ++ [e]) = byteTimes l + eventBytes e := by
  simp [byteTimes]

theorem resetBytes_succ (q : Params) (n : Nat) : resetBytes q (n + 1) = statusSessionBytes q + resetBytes q n := by
  simp only [resetBytes, Nat.succ_mul]
  omega

theorem handshakeBytes_succ (q : Params) (n : Nat) :
    handshakeBytes q (n + 1) = 2 * statusSessionBytes q + handshakeBytes q n := by
  simp only [handshakeBytes, Nat.succ_mul]
  omega

theorem byteBudget_session (hs : s.seq = .session c p) :
    byteBudget s = byteTimes s.trace + (sessionBytesLeft p s + callerBytesLeft c s) := by
  simp [byteBudget, bytesLeft, hs]

/-- The byte-times of a step's epilogue and of all that comes after it. -/
def epilogueBytes (q : Params) (st : BringupStep) : Nat :=
  match st with
  | .reset => 1 + ifcheckBytes q
  | .ifcheck => 1 + handshakeBytes q q.handshakeRoundsMax
  | .handshake => 1

theorem byteBudget_epilogueDeselect {st : BringupStep} (hs : s.seq = .epilogueDeselect st) :
    byteBudget s = byteTimes s.trace + epilogueBytes s.params st := by
  cases st <;> simp [byteBudget, bytesLeft, hs, epilogueBytes]

theorem byteBudget_epilogueIdle {st : BringupStep} (hs : s.seq = .epilogueIdle st) :
    byteBudget s = byteTimes s.trace + epilogueBytes s.params st := by
  cases st <;> simp [byteBudget, bytesLeft, hs, epilogueBytes]

/-! ### Loops and the end of a session -/

theorem preIdleNext_budget (sent : Nat) (s : State) :
    byteBudget (preIdleNext sent s) ≤
      byteTimes s.trace + (s.params.preResetIdleBytes - sent + resetBytes s.params s.params.resetRetryMax) := by
  unfold preIdleNext
  split
  · exact Nat.le_refl _
  · exact Nat.add_le_add_left (Nat.le_add_left _ _) _

theorem enterEpilogue_budget (st : BringupStep) (v : Option StatusCode) (s : State) :
    byteBudget (enterEpilogue st v s) = byteTimes s.trace + epilogueBytes s.params st :=
  byteBudget_epilogueDeselect (s := enterEpilogue st v s) rfl

/-- A step that is left in its loop is within the bound of the loop, however many passes are left. -/
theorem enterEpilogue_reset_budget (v : Option StatusCode) (n : Nat) (s : State) :
    byteBudget (enterEpilogue .reset v s) ≤ byteTimes s.trace + resetBytes s.params n := by
  simp only [enterEpilogue_budget, epilogueBytes, resetBytes]
  omega

theorem enterEpilogue_handshake_budget (v : Option StatusCode) (n : Nat) (s : State) :
    byteBudget (enterEpilogue .handshake v s) ≤ byteTimes s.trace + handshakeBytes s.params n := by
  simp only [enterEpilogue_budget, epilogueBytes, handshakeBytes]
  omega

theorem nextAttempt_budget (s : State) :
    byteBudget (nextAttempt s) ≤
      byteTimes s.trace + resetBytes s.params (s.params.resetRetryMax - s.resetTry) := by
  obtain ⟨-, heq⟩ | ⟨-, heq⟩ := nextAttempt_cases s <;> rw [heq]
  · exact Nat.le_refl _
  · exact enterEpilogue_reset_budget _ _ s

theorem nextRound_budget (s : State) :
    byteBudget (nextRound s) ≤
      byteTimes s.trace + handshakeBytes s.params (s.params.handshakeRoundsMax - s.round) := by
  obtain ⟨-, heq⟩ | ⟨-, heq⟩ := nextRound_cases s <;> rw [heq]
  · exact Nat.le_refl _
  · exact enterEpilogue_handshake_budget _ _ s

/-- A session that ends leaves its caller's share. -/
theorem endSession_budget (c : SessionCaller) (o : SessionOutcome) (s : State) :
    byteBudget (endSession c o s) ≤ byteTimes s.trace + callerBytesLeft c s := by
  let u : State := { s with outcome := some o }
  cases c with
  | host => exact Nat.le_refl _
  | ifcheck => exact (enterEpilogue_budget .ifcheck (ifcheckVerdict o) u).le
  | reset =>
    obtain ⟨-, heq⟩ | ⟨_, -, -, heq⟩ | ⟨-, heq⟩ := afterReset_cases o u <;> rw [endSession, heq]
    · exact enterEpilogue_reset_budget _ _ u
    · exact enterEpilogue_reset_budget _ _ u
    · exact nextAttempt_budget u
  | roundPrefix =>
    have hinit : byteTimes u.trace + handshakeBytes u.params (u.params.handshakeRoundsMax - u.round) ≤
        byteTimes s.trace + callerBytesLeft .roundPrefix s := Nat.add_le_add_left (Nat.le_add_left _ _) _
    obtain ⟨-, heq⟩ | ⟨_, -, -, heq⟩ | ⟨-, heq⟩ := afterPrefix_cases o u <;> rw [endSession, heq]
    · exact (enterEpilogue_handshake_budget _ _ u).trans hinit
    · exact Nat.le_refl _
    · exact (nextRound_budget u).trans hinit
  | roundInit =>
    obtain ⟨-, heq⟩ | ⟨-, heq⟩ | ⟨-, heq⟩ := afterInit_cases o u <;> rw [endSession, heq]
    · exact enterEpilogue_handshake_budget _ _ u
    · exact enterEpilogue_handshake_budget _ _ u
    · exact nextRound_budget u

/-! ### Inside a session -/

theorem goto_session_budget (c : SessionCaller) (p : SessionPos) (s : State) :
    byteBudget (goto (.session c p) s) = byteTimes s.trace + (sessionBytesLeft p s + callerBytesLeft c s) :=
  byteBudget_session (s := goto (.session c p) s) rfl

/-- The failure exit spends nothing (R135). -/
theorem failSession_budget (c : SessionCaller) (s : State) :
    byteBudget (failSession c s) = byteTimes s.trace + callerBytesLeft c s := by
  rw [failSession, goto_session_budget, sessionBytesLeft, Nat.zero_add]

theorem sessionGoOn_budget (c : SessionCaller) (p : SessionPos) (r : Reply) (s : State) :
    byteBudget (sessionGoOn c p r s) ≤ byteTimes s.trace + (sessionBytesLeft p s + callerBytesLeft c s) := by
  unfold sessionGoOn
  split
  · rw [failSession_budget]
    exact Nat.add_le_add_left (Nat.le_add_left _ _) _
  · exact (goto_session_budget c p s).le

/-- Another poll is within the polls the bound leaves. -/
theorem enterPoll_budget (c : SessionCaller) (s : State) :
    byteBudget (enterPoll c s) ≤
      byteTimes s.trace +
        (pollBound s.params s.shape - s.pollCnt + (shapeLength s.shape - 1) + callerBytesLeft c s) := by
  obtain ⟨hlt, heq⟩ | ⟨-, heq⟩ := enterPoll_cases c s <;> rw [heq]
  · refine (goto_session_budget c .poll { s with pollCnt := s.pollCnt + 1 }).le.trans ?_
    have hcaller : callerBytesLeft c { s with pollCnt := s.pollCnt + 1 } = callerBytesLeft c s := rfl
    simp only [sessionBytesLeft, hcaller]
    omega
  · exact (endSession_budget c .timeout s).trans (Nat.add_le_add_left (Nat.le_add_left _ _) _)


/-- A poll spends one byte-time, whether it fails, is the last, or is answered (R131, R132). -/
theorem afterPoll_budget (r : Reply) (s : State) :
    byteBudget (afterPoll c r s) + 1 ≤ byteTimes s.trace + (sessionBytesLeft .poll s + callerBytesLeft c s) := by
  simp only [sessionBytesLeft]
  unfold afterPoll
  split
  · rw [failSession_budget]
    omega
  split
  · have := enterPoll_budget c s
    omega
  split
  · have : byteBudget (respond c (storeByte 0 r.data s)) ≤ byteTimes s.trace + callerBytesLeft c s :=
      endSession_budget c _ (storeByte 0 r.data s)
    omega
  · have : byteBudget { storeByte 0 r.data s with burstIdx := 1, seq := .session c .burst } =
        byteTimes s.trace + (shapeLength s.shape - 1 + callerBytesLeft c s) :=
      goto_session_budget c .burst { storeByte 0 r.data s with burstIdx := 1 }
    omega

/-- A byte of the burst spends one byte-time; the invariant has one left (R132). -/
theorem afterBurst_budget (r : Reply) (hs : s.seq = .session c .burst) (hidx : s.burstIdx < shapeLength s.shape) :
    byteBudget (afterBurst c r s) + 1 ≤ byteTimes s.trace + (sessionBytesLeft .burst s + callerBytesLeft c s) := by
  simp only [sessionBytesLeft]
  unfold afterBurst
  split
  · rw [failSession_budget]
    omega
  split
  · have : byteBudget { storeByte s.burstIdx r.data s with burstIdx := s.burstIdx + 1 } =
        byteTimes s.trace + (shapeLength s.shape - (s.burstIdx + 1) + callerBytesLeft c s) :=
      byteBudget_session (s := { storeByte s.burstIdx r.data s with burstIdx := s.burstIdx + 1 }) hs
    omega
  · have : byteBudget (respond c (storeByte s.burstIdx r.data s)) ≤ byteTimes s.trace + callerBytesLeft c s :=
      endSession_budget c _ (storeByte s.burstIdx r.data s)
    omega

/-! ### One step -/

/-- An action keeps the budget if what follows it has the action's byte-times to spare. -/
theorem awaitReply_budget {event : Reply → Event} {goOn : Reply → State → State} (hinv : State.Inv s)
    (h : awaitReply event goOn s = .next t)
    (hgo : ∀ r u, u.seq = s.seq → State.Inv u → byteBudget (goOn r u) + eventBytes (event r) ≤ byteBudget u) :
    byteBudget t ≤ byteBudget s := by
  obtain ⟨-, ht⟩ | ⟨r, rest, -, ht⟩ := awaitReply_cases h
  · exact (congrArg byteBudget (Host.Outcome.next.inj ht)).le
  · let u : State := { s with replies := rest, trace := s.trace ++ [event r] }
    have hu : byteBudget u = byteBudget s + eventBytes (event r) := by
      have hleft : bytesLeft u = bytesLeft s := rfl
      have htimes : byteTimes u.trace = byteTimes s.trace + eventBytes (event r) := byteTimes_snoc _ _
      simp only [byteBudget, hleft, htimes]
      omega
    have hspent := hgo r u rfl hinv
    rw [hu] at hspent
    exact Host.Outcome.next.inj ht ▸ Nat.le_of_add_le_add_right hspent

theorem session_awaitReply_budget {event : Reply → Event} {goOn : Reply → State → State} (n : Nat)
    (hs : s.seq = .session c p) (hinv : State.Inv s) (h : awaitReply event goOn s = .next t)
    (hevent : ∀ r, eventBytes (event r) = n)
    (hgo : ∀ r u, u.seq = .session c p → sessionPosInv p u →
      byteBudget (goOn r u) + n ≤ byteTimes u.trace + (sessionBytesLeft p u + callerBytesLeft c u)) :
    byteBudget t ≤ byteBudget s :=
  awaitReply_budget hinv h fun r u hu hi => by
    obtain ⟨-, -, hpos⟩ := hi.at_session (hu.trans hs)
    rw [hevent, byteBudget_session (hu.trans hs)]
    exact hgo r u (hu.trans hs) hpos

/-- The bound of the position after an action is less by that action's byte-times (R135). -/
theorem sessionGoOn_spends {n : Nat} {q : SessionPos} (r : Reply) (u : State)
    (h : sessionBytesLeft q u + n = sessionBytesLeft p u) :
    byteBudget (sessionGoOn c q r u) + n ≤ byteTimes u.trace + (sessionBytesLeft p u + callerBytesLeft c u) := by
  have := sessionGoOn_budget c q r u
  omega

theorem session_step_budget (hs : s.seq = .session c p) (hinv : State.Inv s) (h : step s = .next t) :
    byteBudget t ≤ byteBudget s := by
  cases p with
  | leadIdle =>
    rw [step_leadIdle hs] at h
    exact session_awaitReply_budget 1 hs hinv h (fun _ => rfl) fun r u _ _ =>
      sessionGoOn_spends r u (by simp only [sessionBytesLeft]; omega)
  | select =>
    rw [step_select hs] at h
    exact session_awaitReply_budget 0 hs hinv h (fun _ => rfl) fun _ u _ _ =>
      (goto_session_budget c .settleIdle (setCs .selected u)).le
  | settleIdle =>
    rw [step_settleIdle hs] at h
    exact session_awaitReply_budget 1 hs hinv h (fun _ => rfl) fun r u _ _ =>
      sessionGoOn_spends r u (by simp only [sessionBytesLeft]; omega)
  | sendFrame =>
    rw [step_sendFrame hs] at h
    exact session_awaitReply_budget 6 hs hinv h (fun _ => rfl) fun r u _ _ =>
      sessionGoOn_spends r u (by simp only [sessionBytesLeft]; omega)
  | tailIdle =>
    rw [step_tailIdle hs] at h
    exact session_awaitReply_budget 1 hs hinv h (fun _ => rfl) fun r u _ _ =>
      sessionGoOn_spends r u (by simp only [sessionBytesLeft]; omega)
  | deselect =>
    rw [step_deselect hs] at h
    exact session_awaitReply_budget 0 hs hinv h (fun _ => rfl) fun _ u _ _ =>
      (goto_session_budget c .dispatch (fillRsp (setCs .deselected u))).le
  | dispatch =>
    rw [step_dispatch hs] at h
    rw [← Host.Outcome.next.inj h, byteBudget_session hs]
    exact enterPoll_budget c { s with pollCnt := 0 }
  | poll =>
    rw [step_poll hs] at h
    exact session_awaitReply_budget 1 hs hinv h (fun _ => rfl) fun r u _ _ => afterPoll_budget r u
  | burst =>
    rw [step_burst hs] at h
    exact session_awaitReply_budget 1 hs hinv h (fun _ => rfl) fun r u hu hpos => by
      obtain ⟨-, -, -, -, hidx, -⟩ := hpos
      exact afterBurst_budget r hu hidx
  | failDeselect =>
    rw [step_failDeselect hs] at h
    exact session_awaitReply_budget 0 hs hinv h (fun _ => rfl) fun _ u _ _ =>
      (endSession_budget c .transportFailure (setCs .deselected u)).trans
        (Nat.add_le_add_left (Nat.le_add_left _ _) _)

theorem finishBringup_budget (code : StatusCode) (s : State) :
    byteBudget (finishBringup code s) = byteTimes s.trace := rfl

/-- The trailing idle byte spends the one byte-time of the epilogue (R156). -/
theorem afterEpilogue_budget (st : BringupStep) (r : Reply) (s : State) :
    byteBudget (afterEpilogue st r s) + 1 ≤ byteTimes s.trace + epilogueBytes s.params st := by
  have hpos : 1 ≤ epilogueBytes s.params st := by
    cases st with
    | reset => exact Nat.le_add_right 1 _
    | ifcheck => exact Nat.le_add_right 1 _
    | handshake => exact Nat.le_refl 1
  obtain ⟨code, -, heq⟩ | ⟨-, -, heq⟩ | ⟨-, -, heq⟩ := afterEpilogue_cases st r s <;> rw [heq]
  · rw [finishBringup_budget]
    omega
  · rw [finishBringup_budget]
    omega
  · cases st with
    | reset =>
      change byteTimes s.trace + ifcheckBytes s.params + 1 ≤ byteTimes s.trace + (1 + ifcheckBytes s.params)
      omega
    | ifcheck =>
      have : byteBudget (enterHandshake s) ≤
          byteTimes s.trace + handshakeBytes s.params s.params.handshakeRoundsMax :=
        nextRound_budget { s with round := 0 }
      simp only [nextStep, epilogueBytes]
      omega
    | handshake => exact Nat.le_refl _

/-- A command of `BRINGUP` begins a session with the whole bound of its shape (R135). -/
theorem startSession_framerBuild_budget (c : SessionCaller) (sh : Shape) (index : BitVec 8) (arg : Arg32) (s : State) :
    byteBudget (startSession c sh (framerBuild index arg s)) =
      byteTimes s.trace + (9 + (pollBound s.params sh + (shapeLength sh - 1)) + callerBytesLeft c s) :=
  goto_session_budget c .leadIdle (startSession c sh (framerBuild index arg s))

/-- The bound of a loop that goes on is the bound of one session more than what the next pass leaves. -/
theorem resetBytes_pred (q : Params) {n m : Nat} (h : n < m) :
    resetBytes q (m - n) = statusSessionBytes q + resetBytes q (m - (n + 1)) := by
  obtain ⟨k, rfl⟩ := Nat.exists_eq_add_of_lt h
  rw [show n + k + 1 - n = k + 1 by omega, show n + k + 1 - (n + 1) = k by omega, resetBytes_succ]

theorem handshakeBytes_pred (q : Params) {n m : Nat} (h : n < m) :
    handshakeBytes q (m - n) = 2 * statusSessionBytes q + handshakeBytes q (m - (n + 1)) := by
  obtain ⟨k, rfl⟩ := Nat.exists_eq_add_of_lt h
  rw [show n + k + 1 - n = k + 1 by omega, show n + k + 1 - (n + 1) = k by omega, handshakeBytes_succ]

/-- A step of a block at work keeps the budget. -/
theorem busy_step_budget (hbusy : s.seq ≠ .idle) (hinv : State.Inv s) (h : step s = .next t) :
    byteBudget t ≤ byteBudget s := by
  obtain ⟨-, hseq⟩ := inv_iff.mp hinv
  cases hs : s.seq with
  | idle => exact absurd hs hbusy
  | session c p => exact session_step_budget hs hinv h
  | done =>
    rw [← Host.Outcome.next.inj ((step_done hs).symm.trans h)]
    exact Nat.add_le_add_left (Nat.zero_le _) _
  | preDeselect =>
    rw [step_preDeselect hs] at h
    refine awaitReply_budget hinv h fun _ u hu _ => ?_
    simpa [byteBudget, bytesLeft, hu, hs, eventBytes] using preIdleNext_budget 0 (setCs .deselected u)
  | preIdle sent =>
    rw [step_preIdle hs] at h
    refine awaitReply_budget hinv h fun r u hu hi => ?_
    obtain ⟨-, hseq⟩ := inv_iff.mp hi
    simp only [seqInv, hu, hs] at hseq
    obtain ⟨-, -, hsent⟩ := hseq
    have hnext := preIdleNext_budget (sent + 1) u
    have hbudget : byteBudget u = byteTimes u.trace +
        (u.params.preResetIdleBytes - sent + resetBytes u.params u.params.resetRetryMax) := by
      simp [byteBudget, bytesLeft, hu, hs]
    change _ + 1 ≤ _
    split
    · rw [finishBringup_budget]
      omega
    · omega
  | resetSelect =>
    rw [step_resetSelect hs] at h
    refine awaitReply_budget hinv h fun _ u hu _ => ?_
    simpa [byteBudget, bytesLeft, hu, hs, eventBytes, enterReset] using
      nextAttempt_budget { setCs .selected u with resetTry := 0 }
  | resetAttempt =>
    simp only [seqInv, hs] at hseq
    obtain ⟨-, hlt⟩ := hseq
    rw [step_resetAttempt hs] at h
    rw [← Host.Outcome.next.inj h, startSession_framerBuild_budget]
    simp only [byteBudget, bytesLeft, hs, callerBytesLeft, pollBound, shapeLength, resetBytes_pred s.params hlt,
      statusSessionBytes]
    omega
  | ifcheckCommand =>
    rw [step_ifcheckCommand hs] at h
    rw [← Host.Outcome.next.inj h, startSession_framerBuild_budget]
    simp only [byteBudget, bytesLeft, hs, callerBytesLeft, pollBound, shapeLength, ifcheckBytes]
    omega
  | roundPrefix =>
    simp only [seqInv, hs] at hseq
    obtain ⟨-, -, hlt⟩ := hseq
    rw [step_roundPrefix hs] at h
    rw [← Host.Outcome.next.inj h, startSession_framerBuild_budget]
    simp only [byteBudget, bytesLeft, hs, callerBytesLeft, pollBound, shapeLength, handshakeBytes_pred s.params hlt,
      statusSessionBytes]
    omega
  | roundInit =>
    rw [step_roundInit hs] at h
    rw [← Host.Outcome.next.inj h, startSession_framerBuild_budget]
    simp only [byteBudget, bytesLeft, hs, callerBytesLeft, pollBound, shapeLength, statusSessionBytes]
    omega
  | epilogueDeselect st =>
    rw [step_epilogueDeselect hs] at h
    refine awaitReply_budget hinv h fun _ u hu _ => ?_
    rw [byteBudget_epilogueDeselect (hu.trans hs)]
    exact (byteBudget_epilogueIdle (s := goto (.epilogueIdle st) (setCs .deselected u)) rfl).le
  | epilogueIdle st =>
    rw [step_epilogueIdle hs] at h
    refine awaitReply_budget hinv h fun r u hu _ => ?_
    rw [byteBudget_epilogueIdle (hu.trans hs)]
    exact afterEpilogue_budget st r u

/-! ### Runs -/

/-- What every step keeps holds after every run. -/
theorem runSteps_invariant {P : State → Prop} (hstep : ∀ u v, P u → step u = .next v → P v) {n : Nat} (hs : P s)
    (h : runSteps n s = .next t) : P t := by
  induction n generalizing s with
  | zero =>
    rw [runSteps_zero] at h
    exact Host.Outcome.next.inj h ▸ hs
  | succ n ih =>
    cases hu : step s with
    | next u =>
      rw [runSteps_succ hu] at h
      exact ih (hstep s u hs hu) h
    | fault r => exact nomatch r
    | refused r =>
      have hcore : (Sys2Proof.core).step s = .refused r := hu
      simp [runSteps, Host.Core.run, hcore] at h

/-- With nothing requested the idle block waits, and a block at work keeps the budget. -/
theorem step_budget (hinv : State.Inv s) (hq : s.requests = []) (h : step s = .next t) :
    byteBudget t ≤ byteBudget s := by
  by_cases hs : s.seq = .idle
  · rw [step_idle_nil hs hq] at h
    exact (congrArg byteBudget (Host.Outcome.next.inj h).symm).le
  · exact busy_step_budget hs hinv h

theorem runSteps_budget {n : Nat} (hinv : State.Inv s) (hq : s.requests = []) (h : runSteps n s = .next t) :
    byteBudget t ≤ byteBudget s := by
  have hkept : State.Inv t ∧ t.requests = [] ∧ byteBudget t ≤ byteBudget s := by
    refine runSteps_invariant (P := fun u => State.Inv u ∧ u.requests = [] ∧ byteBudget u ≤ byteBudget s)
      (fun u v ⟨hu, hqu, hbudget⟩ huv => ?_) ⟨hinv, hq, Nat.le_refl _⟩ h
    exact ⟨step_inv hu huv, step_requests_nil hqu huv, (step_budget hu hqu huv).trans hbudget⟩
  obtain ⟨-, -, hbudget⟩ := hkept
  exact hbudget

/-- The bound of `BRINGUP` with the default bounds (R169): 10 idle bytes, 15 attempts of 29, the interface check of 21,
10 rounds of 58, and the three trailing idle bytes. -/
theorem bytesLeft_bringup (hs : s.seq = .preDeselect) (hbounds : defaultBounds s.params) : bytesLeft s = 1049 := by
  obtain ⟨htry, hround, hstatus, hother, hidle⟩ := hbounds
  simp [bytesLeft, hs, resetBytes, ifcheckBytes, handshakeBytes, statusSessionBytes, htry, hround, hstatus, hother,
    hidle]

/-! ### The obligations -/

/-- Settles O54: position by position, what an action spends and what comes after it fit the bound; the bound of a
session with its shape's length and poll bound is the printed number. -/
theorem byteTimesAreSpentFromTheBound : Obligations.ByteTimesAreSpentFromTheBound := by
  refine ⟨fun s t hinv hbusy h => busy_step_budget hbusy hinv h, fun s hs hbounds => ?_⟩
  obtain ⟨-, -, hstatus, hother, -⟩ := hbounds
  have hleft : bytesLeft s = 9 + (pollBound s.params s.shape + (shapeLength s.shape - 1)) := by
    simp [bytesLeft, hs, sessionBytesLeft, callerBytesLeft]
  refine ⟨fun hsh => ?_, fun hsh => ?_, fun hsh => ?_, fun hsh => ?_, fun hsh => ?_⟩
  all_goals simp [hleft, hsh, pollBound, shapeLength, hstatus, hother]

/-- Settles O55: the accepted `BRINGUP` begins with its whole bound, and no run raises the budget. -/
theorem bringupSpendsAtMost1049ByteTimes : Obligations.BringupSpendsAtMost1049ByteTimes := by
  intro s u t n hinv hs hq hbounds hu ht
  have hinv' : State.Inv u := host_exec_inv (i := .bringup) rfl hs hinv hu
  rw [exec_bringup_idle hs] at hu
  obtain rfl := Host.Outcome.next.inj hu
  have hbudget := runSteps_budget hinv' hq ht
  have hleft : bytesLeft (goto .preDeselect (clearTransient s)) = 1049 := bytesLeft_bringup rfl hbounds
  simp only [byteBudget, hleft, goto_trace, clearTransient_trace] at hbudget
  omega

end Sys2Proof.Machine

/-! Scope: a session run through, for every caller: its six opening actions, its polls, its burst and its failure
exit. -/

namespace Sys2Proof.Machine

variable {s : State} {c : SessionCaller} {p : SessionPos} {rest : List Reply}

/-! ### One action -/

/-- An action is over: one return is taken and its event recorded (R13). -/
def withEvent (e : Event) (rest : List Reply) (s : State) : State :=
  { s with replies := rest, trace := s.trace ++ [e] }

theorem step_action {event : Reply → Event} {goOn : Reply → State → State} {r : Reply}
    (h : step s = awaitReply event goOn s) (hr : s.replies = r :: rest) :
    step s = .next (goOn r (withEvent (event r) rest s)) :=
  h.trans (awaitReply_cons hr)

theorem exec_action_waits {i : Instr} (hi : isAction i = true) (hr : s.replies = []) : exec i s = .next s := by
  cases i with
  | sel => rw [exec, execSel, awaitReply_nil hr]
  | desel => rw [exec, execDesel, awaitReply_nil hr]
  | xchg _ => rw [exec, execXchg, awaitReply_nil hr]
  | xmit _ => rw [exec, execXmit, awaitReply_nil hr]
  | _ => exact nomatch hi

/-! ### The end of a session and the loop head of the polls do not ask where the session stands -/

theorem endSession_goto (c : SessionCaller) (o : SessionOutcome) (q : SeqPos) (s : State) :
    endSession c o (goto q s) = endSession c o s := by
  cases c with
  | host | ifcheck => rfl
  | reset | roundPrefix | roundInit => cases o <;> rfl

theorem enterPoll_goto (c : SessionCaller) (q : SeqPos) (s : State) : enterPoll c (goto q s) = enterPoll c s := by
  unfold enterPoll
  rw [endSession_goto]
  rfl

theorem enterPoll_of_lt (h : s.pollCnt < pollBound s.params s.shape) :
    enterPoll c s = goto (.session c .poll) { s with pollCnt := s.pollCnt + 1 } :=
  if_pos h

theorem enterPoll_of_ge (h : pollBound s.params s.shape ≤ s.pollCnt) : enterPoll c s = endSession c .timeout s :=
  if_neg (Nat.not_lt.mpr h)

/-! ### Steps 1 to 4 -/

theorem step_idleByte_ok {b : Byte} (h : step s = awaitReply (xchgEvent Config.idleByte) (sessionGoOn c p) s)
    (hr : s.replies = okReply b :: rest) :
    step s = .next (goto (.session c p) (withEvent (idleByteEvent b) rest s)) :=
  step_action h hr

theorem step_frame_ok {f : Frame} {b : Byte} (h : step s = awaitReply (xmitEvent f) (sessionGoOn c p) s)
    (hr : s.replies = okReply b :: rest) :
    step s = .next (goto (.session c p) (withEvent (.xmit f true) rest s)) :=
  step_action h hr

/-- The six events in the order in which they are recorded. -/
theorem append_openingEvents (l : List Event) (f : Frame) (a b d : Byte) :
    l ++ openingEvents f a b d =
      l ++ [idleByteEvent a] ++ [.sel] ++ [idleByteEvent b] ++ [.xmit f true] ++ [idleByteEvent d] ++ [.desel] := by
  simp [openingEvents]

theorem runSteps_opening {a b d e : Byte} {r1 r2 : Reply} (hs : s.seq = .session c .leadIdle)
    (hr : s.replies = okReply a :: r1 :: okReply b :: okReply e :: okReply d :: r2 :: rest) :
    runSteps 6 s = .next
      { s with
        seq := .session c .dispatch, cs := .deselected, rsp := Rsp.filled, replies := rest,
        trace := s.trace ++ openingEvents s.frame a b d } := by
  rw [runSteps_succ (step_idleByte_ok (step_leadIdle hs) hr),
    runSteps_succ (step_action (step_select (c := c) rfl) rfl),
    runSteps_succ (step_idleByte_ok (step_settleIdle (c := c) rfl) rfl),
    runSteps_succ (step_frame_ok (step_sendFrame (c := c) rfl) rfl),
    runSteps_succ (step_idleByte_ok (step_tailIdle (c := c) rfl) rfl),
    runSteps_succ (step_action (step_deselect (c := c) rfl) rfl), runSteps_zero, append_openingEvents]
  simp only [withEvent, goto, setCs, fillRsp]

/-- Step 7 gives the shape to the dispatcher, which stands before the first poll (R131, R140). -/
theorem runSteps_to_polls {a b d e : Byte} {r1 r2 : Reply} (hs : s.seq = .session c .leadIdle)
    (hr : s.replies = okReply a :: r1 :: okReply b :: okReply e :: okReply d :: r2 :: rest) :
    runSteps 7 s = .next (enterPoll c
      { s with
        cs := .deselected, rsp := Rsp.filled, pollCnt := 0, replies := rest,
        trace := s.trace ++ openingEvents s.frame a b d }) := by
  rw [runSteps_add (m := 6) (n := 1) (runSteps_opening hs hr), runSteps_succ (step_dispatch (c := c) rfl),
    runSteps_zero, ← enterPoll_goto c (.session c .dispatch)]
  rfl

/-! ### Step 5: the polls -/

/-- Polls that stay within the bound and are all answered `0xFF` only count and are recorded (R131). -/
theorem runSteps_silent_polls (n : Nat) (hbound : s.pollCnt + n ≤ pollBound s.params s.shape)
    (hr : s.replies = List.replicate n (okReply Config.idleByte) ++ rest) :
    runSteps n (enterPoll c s) = .next (enterPoll c
      { s with
        pollCnt := s.pollCnt + n, replies := rest,
        trace := s.trace ++ List.replicate n (idleByteEvent Config.idleByte) }) := by
  induction n generalizing s with
  | zero =>
    obtain rfl : s.replies = rest := hr
    simp only [List.replicate_zero, List.append_nil]
    rfl
  | succ n ih =>
    let u : State :=
      withEvent (idleByteEvent Config.idleByte) (List.replicate n (okReply Config.idleByte) ++ rest)
        { s with pollCnt := s.pollCnt + 1 }
    have hstep : step (enterPoll c s) = .next (enterPoll c (goto (.session c .poll) u)) := by
      rw [enterPoll_of_lt (by omega)]
      exact step_action (step_poll (s := goto (.session c .poll) { s with pollCnt := s.pollCnt + 1 }) rfl) hr
    have hrest := ih (s := u) (by simp only [u, withEvent]; omega) rfl
    rw [runSteps_succ hstep, enterPoll_goto, hrest]
    simp [u, withEvent, List.replicate_succ, Nat.add_assoc, Nat.add_comm 1]

/-! ### Step 5: the answer -/

/-- Byte `i` of the response is stored and the burst goes on with the next (R132). -/
def burstOn (c : SessionCaller) (i : Nat) (b : Byte) (s : State) : State :=
  goto (.session c .burst) { storeByte i b s with burstIdx := i + 1 }

section AfterByte

variable {r : Reply} (hok : r.fail = false)
include hok

theorem afterPoll_silent (hdata : r.data = Config.idleByte) : afterPoll c r s = enterPoll c s := by
  simp [afterPoll, hok, hdata]

theorem afterPoll_last (hdata : r.data ≠ Config.idleByte) (hlen : shapeLength s.shape = 1) :
    afterPoll c r s = respond c (storeByte 0 r.data s) := by
  simp [afterPoll, hok, hdata, hlen]

theorem afterPoll_more (hdata : r.data ≠ Config.idleByte) (hlen : shapeLength s.shape ≠ 1) :
    afterPoll c r s = burstOn c 0 r.data s := by
  simp [afterPoll, hok, hdata, hlen, burstOn, goto]

theorem afterBurst_last (hlen : shapeLength s.shape ≤ s.burstIdx + 1) :
    afterBurst c r s = respond c (storeByte s.burstIdx r.data s) := by
  simp [afterBurst, hok, Nat.not_lt.mpr hlen]

theorem afterBurst_more (hs : s.seq = .session c .burst) (hlen : s.burstIdx + 1 < shapeLength s.shape) :
    afterBurst c r s = burstOn c s.burstIdx r.data s := by
  simp [afterBurst, hok, hlen, burstOn, goto, hs]

end AfterByte

/-- The first bytes of the response are in the area of the shape, and every other area is `0xFF` (R25, R132). -/
def readSoFar (bytes : List Byte) (sh : Shape) (r : Rsp) : Prop :=
  (rspArea r sh).take bytes.length = bytes ∧ othersFilled sh r

theorem readSoFar_rspWrite {bytes : List Byte} {sh : Shape} {r : Rsp} (b : Byte) (h : readSoFar bytes sh r)
    (hlt : bytes.length < shapeLength sh) : readSoFar (bytes ++ [b]) sh (rspWrite r sh bytes.length b) := by
  obtain ⟨hbytes, hothers⟩ := h
  refine ⟨?_, othersFilled_rspWrite hothers _ _⟩
  rw [rspArea_rspWrite_self, List.set_eq_take_append_cons_drop, if_pos (by rwa [rspArea_length]), hbytes,
    List.length_append, List.take_length_add_append]
  rfl

theorem readSoFar.full {bytes : List Byte} {sh : Shape} {r : Rsp} (h : readSoFar bytes sh r)
    (hlen : bytes.length = shapeLength sh) : rspArea r sh = bytes := by
  obtain ⟨hbytes, -⟩ := h
  rwa [hlen, List.take_of_length_le (rspArea_length r sh).le] at hbytes

/-- In `n` steps from `s` the session returns a response, which stands in `RSP`; but for the place of the burst, the
returns taken and the events recorded, everything else is as in `s`. -/
def Answers (c : SessionCaller) (n : Nat) (s : State) (bytes : List Byte) (rest : List Reply) (l : List Event) : Prop :=
  ∃ rsp i, readSoFar bytes s.shape rsp ∧
    runSteps n s = .next (endSession c (.response bytes)
      { s with rsp := rsp, burstIdx := i, replies := rest, trace := s.trace ++ l })

/-- The last byte is stored and all of the response is returned (R142). -/
theorem answers_last {bytes : List Byte} {b : Byte} {e : Event}
    (hstep : step s = .next (respond c (storeByte bytes.length b (withEvent e rest s))))
    (hread : readSoFar bytes s.shape s.rsp) (hlen : bytes.length + 1 = shapeLength s.shape) :
    Answers c 1 s (bytes ++ [b]) rest [e] := by
  have hfull := readSoFar_rspWrite b hread (by omega)
  refine ⟨_, s.burstIdx, hfull, (runSteps_succ hstep).trans ?_⟩
  rw [← hfull.full (by simpa using hlen)]
  rfl

/-- A byte that is not the last is stored, and the burst reads the rest. -/
theorem answers_more {bytes bytes' : List Byte} {b : Byte} {e : Event} {l : List Event} {rest' : List Reply} {n : Nat}
    (hstep : step s = .next (burstOn c bytes.length b (withEvent e rest' s)))
    (h : Answers c n (burstOn c bytes.length b (withEvent e rest' s)) bytes' rest l) :
    Answers c (n + 1) s bytes' rest (e :: l) := by
  obtain ⟨rsp, i, hread, hrun⟩ := h
  refine ⟨rsp, i, hread, (runSteps_succ hstep).trans (hrun.trans ?_)⟩
  rw [← endSession_goto c _ (.session c .burst), List.append_cons]
  rfl

/-- The burst reads as many bytes as the response still lacks, whatever they are (R132). -/
theorem burst_answers {bytes : List Byte} (b : Byte) (tail : List Byte) (hs : s.seq = .session c .burst)
    (hidx : s.burstIdx = bytes.length) (hread : readSoFar bytes s.shape s.rsp)
    (hlen : bytes.length + (tail.length + 1) = shapeLength s.shape)
    (hr : s.replies = okReply b :: (tail.map okReply ++ rest)) :
    Answers c (tail.length + 1) s (bytes ++ b :: tail) rest (idleByteEvent b :: tail.map idleByteEvent) := by
  induction tail generalizing s bytes b with
  | nil =>
    refine answers_last ((step_action (step_burst hs) hr).trans ?_) hread hlen
    rw [afterBurst_last rfl (by simp only [withEvent, hidx]; exact hlen.ge), ← hidx]
    rfl
  | cons b' tail ih =>
    rw [List.length_cons] at hlen
    let u : State := withEvent (idleByteEvent b) (okReply b' :: (tail.map okReply ++ rest)) s
    have hgo : afterBurst c (okReply b) u = burstOn c bytes.length b u := by
      rw [← hidx]
      exact afterBurst_more (s := u) rfl hs (by simp only [u, withEvent]; omega)
    have hread' := readSoFar_rspWrite b hread (by omega)
    have hlen' : (bytes ++ [b]).length + (tail.length + 1) = shapeLength s.shape := by
      rw [List.length_append, List.length_singleton]
      omega
    rw [List.append_cons]
    refine answers_more (b := b) ((step_action (step_burst hs) hr).trans (congrArg _ hgo)) ?_
    exact ih (s := burstOn c bytes.length b u) b' rfl (by simp [burstOn]) hread' hlen' rfl

/-- A poll answered with another byte than `0xFF` begins the response, and the burst reads the rest (R131, R132). -/
theorem poll_answers {x : Byte} (burst : List Byte) (hs : s.seq = .session c .poll) (hrsp : s.rsp = Rsp.filled)
    (hx : x ≠ Config.idleByte) (hlen : burst.length + 1 = shapeLength s.shape)
    (hr : s.replies = okReply x :: (burst.map okReply ++ rest)) :
    Answers c (burst.length + 1) s (x :: burst) rest (idleByteEvent x :: burst.map idleByteEvent) := by
  have hread : readSoFar [] s.shape s.rsp := ⟨rfl, hrsp ▸ othersFilled_filled s.shape⟩
  cases burst with
  | nil =>
    have hgo := afterPoll_last (c := c) (r := okReply x) (s := withEvent (idleByteEvent x) rest s) rfl hx hlen.symm
    exact answers_last (bytes := []) ((step_action (step_poll hs) hr).trans (congrArg _ hgo)) hread hlen
  | cons b tail =>
    rw [List.length_cons] at hlen
    let u : State := withEvent (idleByteEvent x) (okReply b :: (tail.map okReply ++ rest)) s
    have hgo : afterPoll c (okReply x) u = burstOn c 0 x u :=
      afterPoll_more rfl hx (by simp only [u, withEvent]; omega)
    refine answers_more (bytes := []) (b := x) ((step_action (step_poll hs) hr).trans (congrArg _ hgo)) ?_
    exact burst_answers (s := burstOn c 0 x u) (bytes := [x]) b tail rfl rfl
      (readSoFar_rspWrite x hread (shapeLength_pos s.shape)) ((Nat.add_comm _ _).trans hlen) rfl

/-! ### The failure exit and the timeout -/

/-- A failed action leaves its event, and the failure exit is next (R134). -/
theorem step_failed_action {x : Byte} (hs : s.seq = .session c p) (hp : canFail p = true)
    (hr : s.replies = { fail := true, data := x } :: rest) :
    step s = .next (goto (.session c .failDeselect) (withEvent (failEvent p s.frame) rest s)) := by
  cases p with
  | leadIdle => exact step_action (step_leadIdle hs) hr
  | settleIdle => exact step_action (step_settleIdle hs) hr
  | sendFrame => exact step_action (step_sendFrame hs) hr
  | tailIdle => exact step_action (step_tailIdle hs) hr
  | poll => exact step_action (step_poll hs) hr
  | burst => exact step_action (step_burst hs) hr
  | select | deselect | dispatch | failDeselect => exact nomatch hp

/-- After the one `DESEL` of the failure exit the session returns (R134). -/
theorem runSteps_failed_action {x : Byte} {r : Reply} (hs : s.seq = .session c p) (hp : canFail p = true)
    (hr : s.replies = { fail := true, data := x } :: r :: rest) :
    runSteps 2 s = .next (endSession c .transportFailure
      { s with cs := .deselected, replies := rest, trace := s.trace ++ [failEvent p s.frame, .desel] }) := by
  rw [runSteps_succ (step_failed_action hs hp hr), runSteps_succ (step_action (step_failDeselect (c := c) rfl) rfl),
    runSteps_zero, ← endSession_goto c _ (.session c .failDeselect), List.append_cons]
  rfl

/-- The last poll answered `0xFF`, and a dispatcher with a bound of 0, end the session with a timeout (R133, R137). -/
theorem step_timeout
    (h : (s.seq = .session c .poll ∧ pollBound s.params s.shape ≤ s.pollCnt ∧
        s.replies.head? = some (okReply Config.idleByte)) ∨
      (s.seq = .session c .dispatch ∧ pollBound s.params s.shape = 0)) :
    ∃ n l tr, step s = .next (endSession c .timeout { s with pollCnt := n, replies := l, trace := tr }) := by
  obtain ⟨hs, hle, hhead⟩ | ⟨hs, hzero⟩ := h
  · obtain ⟨rest, hr⟩ := List.head?_eq_some_iff.mp hhead
    let u : State := withEvent (idleByteEvent Config.idleByte) rest s
    have hgo : afterPoll c (okReply Config.idleByte) u = endSession c .timeout u := enterPoll_of_ge hle
    exact ⟨_, _, _, (step_action (step_poll hs) hr).trans (congrArg _ hgo)⟩
  · have hgo : enterPoll c { s with pollCnt := 0 } = endSession c .timeout { s with pollCnt := 0 } :=
      enterPoll_of_ge hzero.le
    exact ⟨_, _, _, (step_dispatch hs).trans (congrArg _ hgo)⟩

/-! ### The obligations -/

/-- Settles O22: an action waits for its return, and a step of the block is the action its sequencer issues. -/
theorem outstandingActionWaits : Obligations.OutstandingActionWaits := by
  refine fun s hr => ⟨fun i hi => exec_action_waits hi hr, fun i hissued hi => ?_⟩
  rw [step_busy hissued, exec_action_waits hi hr]

/-- Settles O24: the six positions one after the other. -/
theorem sessionOpensWithItsSixActions : Obligations.SessionOpensWithItsSixActions :=
  fun _ _ _ _ _ _ _ _ _ hs hr => runSteps_opening hs hr

/-- Settles O25: the failure exit, whose outcome is the host's result. -/
theorem transportFailureDeselectsAndReturns : Obligations.TransportFailureDeselectsAndReturns :=
  fun _ _ _ _ _ hs hp hr => runSteps_failed_action hs hp hr

/-- Settles O37: the failure exit, whose outcome leaves the step of whoever called the session. -/
theorem transportFailureLeavesTheStep : Obligations.TransportFailureLeavesTheStep := by
  intro s c st p x r rest hs hc hp hr
  rw [runSteps_failed_action hs hp hr]
  cases c with
  | host => exact nomatch hc
  | reset | ifcheck | roundPrefix | roundInit => exact Option.some.inj hc ▸ rfl

/-- Settles O26: seven steps to the loop head of the polls, as many silent polls as the bound, then the timeout. -/
theorem silentPollsTimeOut : Obligations.SilentPollsTimeOut := by
  intro s a b d e r1 r2 rest hs hr
  let n := pollBound s.params s.shape
  let u : State :=
    { s with
      cs := .deselected, rsp := Rsp.filled, pollCnt := 0,
      replies := List.replicate n (okReply Config.idleByte) ++ rest,
      trace := s.trace ++ openingEvents s.frame a b d }
  have hpolls := runSteps_silent_polls (c := .host) (s := u) n (Nat.zero_add n).le rfl
  rw [runSteps_add (runSteps_to_polls hs hr), hpolls, enterPoll_of_ge (Nat.zero_add n).ge]
  simp [endSession, u, n]

/-- Settles O27: the loop head of the polls after `k` silent ones, then the poll and the burst that answer. -/
theorem answerIsReadInFull : Obligations.AnswerIsReadInFull := by
  intro s a b d e x r1 r2 k burst rest hs hk hx hlen hr
  let u : State :=
    { s with
      cs := .deselected, rsp := Rsp.filled, pollCnt := 0,
      replies := List.replicate k (okReply Config.idleByte) ++ okReply x :: (burst.map okReply ++ rest),
      trace := s.trace ++ openingEvents s.frame a b d }
  let v : State :=
    { u with
      pollCnt := 0 + k, replies := okReply x :: (burst.map okReply ++ rest),
      trace := u.trace ++ List.replicate k (idleByteEvent Config.idleByte) }
  have hpolls : runSteps k (enterPoll .host u) = .next (enterPoll .host v) :=
    runSteps_silent_polls k (by simp only [u]; omega) rfl
  have hpoll : enterPoll .host v = goto (.session .host .poll) { v with pollCnt := 0 + k + 1 } :=
    enterPoll_of_lt (by simp only [v, u]; omega)
  obtain ⟨rsp, i, hread, hrun⟩ := poll_answers (s := goto (.session .host .poll) { v with pollCnt := 0 + k + 1 })
    burst rfl rfl hx hlen rfl
  have hsteps : 8 + k + burst.length = 7 + (k + (burst.length + 1)) := by omega
  rw [hsteps, runSteps_add (runSteps_to_polls hs hr), runSteps_add hpolls, hpoll, hrun]
  have hfull := hread.full hlen
  obtain ⟨-, hothers⟩ := hread
  have hcount : 0 + k + 1 = k + 1 := by omega
  exact ⟨_, rfl, rfl, rfl, rfl, rfl, hfull, hothers, hcount, rfl, rfl, rfl, rfl, rfl, rfl⟩

/-- Settles O36: whoever called the session goes on from its timeout to its loop head or leaves its step. -/
theorem timeoutCountsAsUnacceptable : Obligations.TimeoutCountsAsUnacceptable := by
  intro s c h
  obtain ⟨n, l, tr, hstep⟩ := step_timeout h
  let u : State := { s with pollCnt := n, replies := l, trace := tr }
  obtain ⟨res, q, v, hend⟩ := endSession_moves c .timeout u
  refine ⟨endSession c .timeout u, hstep, ?_, ?_, ?_, ?_, ?_, ?_, ?_, ?_⟩
  · rw [hend]
  · rw [hend]
  · rintro rfl
    exact ⟨rfl, rfl⟩
  · rintro rfl hlt
    simp [endSession, afterReset, nextAttempt, u, hlt]
  · rintro rfl hle
    simp [endSession, afterReset, nextAttempt, u, Nat.not_lt.mpr hle]
  · rintro rfl
    exact ⟨rfl, rfl⟩
  · rintro (rfl | rfl) hlt <;> simp [endSession, afterPrefix, afterInit, nextRound, u, hlt]
  · rintro (rfl | rfl) hle <;> simp [endSession, afterPrefix, afterInit, nextRound, u, Nat.not_lt.mpr hle]

end Sys2Proof.Machine

/-! Scope: the machine's session is the pseudocode's (R126), for every caller: where the pseudocode returns, the machine
comes to the end of its session with the same outcome and the same state, and where it waits, so does the machine. -/

namespace Sys2Proof.Machine

variable {u v w : State} {c : SessionCaller} {p : SessionPos} {rest : List Reply}
  {run : Option (SessionOutcome × State)}

/-! ### The four calls -/

theorem callXchg_nil (hr : w.replies = []) : callXchg w = none := by
  simp [callXchg, hr]

theorem callXchg_cons {r : Reply} (hr : w.replies = r :: rest) :
    callXchg w = some (if r.fail then none else some r.data, withEvent (xchgEvent Config.idleByte r) rest w) := by
  simp [callXchg, hr, withEvent, xchgEvent]

theorem callXmit_nil (hr : w.replies = []) : callXmit w = none := by
  simp [callXmit, hr]

theorem callXmit_cons {r : Reply} (hr : w.replies = r :: rest) :
    callXmit w = some (!r.fail, withEvent (xmitEvent w.frame r) rest w) := by
  simp [callXmit, hr, withEvent, xmitEvent]

theorem callSel_nil (hr : w.replies = []) : callSel w = none := by
  simp [callSel, hr]

theorem callSel_cons {r : Reply} (hr : w.replies = r :: rest) :
    callSel w = some (setCs .selected (withEvent .sel rest w)) := by
  simp [callSel, hr, withEvent, setCs]

theorem callDesel_nil (hr : w.replies = []) : callDesel w = none := by
  simp [callDesel, hr]

theorem callDesel_cons {r : Reply} (hr : w.replies = r :: rest) :
    callDesel w = some (setCs .deselected (withEvent .desel rest w)) := by
  simp [callDesel, hr, withEvent, setCs]

/-! ### Meeting the pseudocode -/

/-- From `u` the machine does what the pseudocode did: it comes to the end of its session with the same outcome in the
same state, or never gets idle where an action never returns (R124, R219). -/
structure Meets (c : SessionCaller) (u : State) (run : Option (SessionOutcome × State)) : Prop where
  returns : ∀ o v, run = some (o, v) → ∃ n, runSteps n u = .next (endSession c o v)
  waits : run = none → ∀ n, ∃ t, runSteps n u = .next t ∧ t.seq ≠ .idle

/-- The end of a session does not ask where the session stands. -/
theorem meets_endSession (c : SessionCaller) (o : SessionOutcome) (q : SeqPos) (v : State) :
    Meets c (endSession c o (goto q v)) (some (o, v)) := by
  refine ⟨fun o' v' h => ?_, nofun⟩
  cases h
  exact ⟨0, congrArg _ (endSession_goto c o q v)⟩

theorem Meets.of_step (hbusy : u.seq ≠ .idle) (hstep : step u = .next v) (h : Meets c v run) : Meets c u run := by
  refine ⟨fun o v' hrun => ?_, fun hrun n => ?_⟩
  · obtain ⟨n, hn⟩ := h.returns o v' hrun
    exact ⟨n + 1, (runSteps_succ hstep).trans hn⟩
  · cases n with
    | zero => exact ⟨u, rfl, hbusy⟩
    | succ n =>
      rw [runSteps_succ hstep]
      exact h.waits hrun n

theorem runSteps_of_fixed (hstep : step u = .next u) (n : Nat) : runSteps n u = .next u := by
  induction n with
  | zero => rfl
  | succ n ih => rw [runSteps_succ hstep, ih]

/-- An action waits where the call does, and goes on with its return where the call does. -/
theorem meets_action {event : Reply → Event} {goOn : Reply → State → State} (hs : u.seq = .session c p)
    (hstep : step u = awaitReply event goOn u) (hnil : u.replies = [] → run = none)
    (hcons : ∀ r rest, u.replies = r :: rest → Meets c (goOn r (withEvent (event r) rest u)) run) :
    Meets c u run := by
  have hbusy : u.seq ≠ .idle := by rw [hs]; exact nofun
  cases hr : u.replies with
  | nil =>
    rw [awaitReply_nil hr] at hstep
    rw [hnil hr]
    exact ⟨fun _ _ h => (nomatch h), fun _ n => ⟨u, runSteps_of_fixed hstep n, hbusy⟩⟩
  | cons r rest => exact (hcons r rest hr).of_step hbusy (step_action hstep hr)

theorem sessionFailed_meets (c : SessionCaller) (w : State) :
    Meets c (goto (.session c .failDeselect) w) (sessionFailed w) := by
  refine meets_action rfl (step_failDeselect rfl) (fun hr => ?_) fun r rest hr => ?_
  · rw [sessionFailed, callDesel_nil (w := w) hr]
  · rw [sessionFailed, callDesel_cons (w := w) hr]
    exact meets_endSession c .transportFailure (.session c .failDeselect) (setCs .deselected (withEvent .desel rest w))

/-- An idle byte: where the call gives no byte so does the action, a failed one takes both to `failed`, and the rest is
for a byte that came in (R127 to R129, R131, R132). -/
theorem meets_idleByte {goOn : Reply → State → State}
    (hstep : step (goto (.session c p) w) = awaitReply (xchgEvent Config.idleByte) goOn (goto (.session c p) w))
    (hfail : ∀ r u, r.fail = true → goOn r u = failSession c u)
    (hcallNone : callXchg w = none → run = none)
    (hcallFail : ∀ v, callXchg w = some (none, v) → run = sessionFailed v)
    (hcallOk : ∀ e r rest, r.fail = false → callXchg w = some (some r.data, withEvent e rest w) →
      Meets c (goOn r (goto (.session c p) (withEvent e rest w))) run) :
    Meets c (goto (.session c p) w) run := by
  refine meets_action rfl hstep (fun hr => hcallNone (callXchg_nil hr)) fun r rest hr => ?_
  have hcall := callXchg_cons (w := w) hr
  cases hf : r.fail with
  | true =>
    rw [hcallFail _ (by simpa [hf] using hcall), hfail r _ hf]
    exact sessionFailed_meets c (withEvent (xchgEvent Config.idleByte r) rest w)
  | false => exact hcallOk _ r rest hf (by simpa [hf] using hcall)

/-! ### Step 5 -/

theorem respond_meets {sh : Shape} (i : Nat) (b : Byte) (hsh : w.shape = sh) :
    Meets c (respond c (storeByte i b (goto (.session c p) w)))
      (some (.response (rspArea (rspWrite w.rsp sh i b) sh), { w with rsp := rspWrite w.rsp sh i b })) := by
  subst hsh
  exact meets_endSession c _ (.session c p) (storeByte i b w)

/-- A byte of the burst is the call at the head of the loop. -/
theorem burstLoop_succ_meets {left i : Nat}
    (hrest : ∀ e r rest, r.fail = false →
      Meets c (afterBurst c r (goto (.session c .burst) (withEvent e rest { w with burstIdx := i })))
        (burstLoop w.shape left (i + 1)
          { withEvent e rest { w with burstIdx := i } with rsp := rspWrite w.rsp w.shape i r.data })) :
    Meets c (goto (.session c .burst) { w with burstIdx := i }) (burstLoop w.shape (left + 1) i w) := by
  refine meets_idleByte (step_burst rfl) (fun r u hf => by simp [afterBurst, hf]) (fun h => ?_) (fun v h => ?_)
    fun e r rest hf h => ?_
  · simp [burstLoop, h]
  · simp [burstLoop, h]
  · simp only [burstLoop, h]
    exact hrest e r rest hf

/-- With `left + 1` bytes of the response to come, the burst is the loop (R132). -/
theorem burstLoop_meets {left i : Nat} (hlen : i + (left + 1) = shapeLength w.shape) :
    Meets c (goto (.session c .burst) { w with burstIdx := i }) (burstLoop w.shape (left + 1) i w) := by
  induction left generalizing i w with
  | zero =>
    refine burstLoop_succ_meets fun e r rest hf => ?_
    rw [afterBurst_last hf hlen.ge]
    exact respond_meets (w := withEvent e rest { w with burstIdx := i }) i r.data rfl
  | succ left ih =>
    refine burstLoop_succ_meets fun e r rest hf => ?_
    let u : State := goto (.session c .burst) (withEvent e rest { w with burstIdx := i })
    have hmore : i + 1 < shapeLength w.shape := by omega
    have hlen' : i + 1 + (left + 1) = shapeLength w.shape := by omega
    rw [afterBurst_more (s := u) hf rfl hmore]
    exact ih (w := { withEvent e rest { w with burstIdx := i } with rsp := rspWrite w.rsp w.shape i r.data }) hlen'

/-- With `left` attempts to go, the polls are the loop (R131, R133). -/
theorem pollLoop_meets {left : Nat} (hbound : w.pollCnt + left = pollBound w.params w.shape) :
    Meets c (enterPoll c w) (pollLoop w.shape left w) := by
  induction left generalizing w with
  | zero =>
    rw [enterPoll_of_ge hbound.ge]
    exact meets_endSession c .timeout w.seq w
  | succ left ih =>
    rw [enterPoll_of_lt (by omega)]
    refine meets_idleByte (step_poll rfl) (fun r u hf => by simp [afterPoll, hf]) (fun h => ?_) (fun v h => ?_)
      fun e r rest hf h => ?_
    · simp [pollLoop, h]
    · simp [pollLoop, h]
    · simp only [pollLoop, h]
      let v : State := withEvent e rest { w with pollCnt := w.pollCnt + 1 }
      by_cases hdata : r.data = Config.idleByte
      · rw [afterPoll_silent hf hdata, enterPoll_goto, if_pos hdata]
        exact ih (w := v) ((Nat.add_right_comm _ 1 left).trans hbound)
      · rw [if_neg hdata]
        by_cases hlen : shapeLength w.shape = 1
        · rw [afterPoll_last (s := goto (.session c .poll) v) hf hdata hlen, hlen]
          exact respond_meets (w := v) 0 r.data rfl
        · have hpos := shapeLength_pos w.shape
          obtain ⟨n, hn⟩ : ∃ n, shapeLength w.shape = n + 2 := ⟨shapeLength w.shape - 2, by omega⟩
          rw [afterPoll_more (s := goto (.session c .poll) v) hf hdata hlen, hn]
          exact burstLoop_meets (w := { v with rsp := rspWrite w.rsp w.shape 0 r.data })
            ((Nat.add_comm _ _).trans hn.symm)

theorem sessionAnswer_meets (c : SessionCaller) (w : State) :
    Meets c (goto (.session c .dispatch) { w with rsp := Rsp.filled }) (sessionAnswer w.shape w) := by
  refine Meets.of_step nofun (step_dispatch (c := c) rfl) ?_
  rw [← enterPoll_goto c w.seq]
  exact pollLoop_meets (w := { w with rsp := Rsp.filled, pollCnt := 0 }) (Nat.zero_add _)

/-! ### Steps 1 to 3 -/

theorem sessionGoOn_fail {r : Reply} (hf : r.fail = true) : sessionGoOn c p r u = failSession c u := if_pos hf

theorem sessionGoOn_ok {r : Reply} (hf : r.fail = false) : sessionGoOn c p r u = goto (.session c p) u := by
  simp [sessionGoOn, hf]

theorem sessionTail_meets (c : SessionCaller) (w : State) :
    Meets c (goto (.session c .tailIdle) w) (sessionTail w.shape w) := by
  refine meets_idleByte (step_tailIdle rfl) (fun _ _ hf => sessionGoOn_fail hf) (fun h => by rw [sessionTail, h])
    (fun v h => by rw [sessionTail, h]) fun e r rest hf h => ?_
  rw [sessionGoOn_ok hf]
  refine meets_action rfl (step_deselect rfl) (fun hr => ?_) fun r' rest' hr => ?_
  · simp only [sessionTail, h, callDesel_nil (w := withEvent e rest w) hr]
  · simp only [sessionTail, h, callDesel_cons (w := withEvent e rest w) hr]
    exact sessionAnswer_meets c (setCs .deselected (withEvent .desel rest' (withEvent e rest w)))

theorem sessionFrame_meets (c : SessionCaller) (w : State) :
    Meets c (goto (.session c .sendFrame) w) (sessionFrame w.shape w) := by
  refine meets_action rfl (step_sendFrame rfl) (fun hr => ?_) fun r rest hr => ?_
  · simp only [sessionFrame, callXmit_nil (w := w) hr]
  · simp only [sessionFrame, callXmit_cons (w := w) hr]
    cases hf : r.fail with
    | true =>
      rw [sessionGoOn_fail hf]
      exact sessionFailed_meets c (withEvent (xmitEvent w.frame r) rest w)
    | false =>
      rw [sessionGoOn_ok hf]
      exact sessionTail_meets c (withEvent (xmitEvent w.frame r) rest w)

theorem sessionSettle_meets (c : SessionCaller) (w : State) :
    Meets c (goto (.session c .settleIdle) w) (sessionSettle w.shape w) := by
  refine meets_idleByte (step_settleIdle rfl) (fun _ _ hf => sessionGoOn_fail hf) (fun h => by rw [sessionSettle, h])
    (fun v h => by rw [sessionSettle, h]) fun e r rest hf h => ?_
  rw [sessionGoOn_ok hf]
  simp only [sessionSettle, h]
  exact sessionFrame_meets c (withEvent e rest w)

/-- The session of any caller is the pseudocode's `SEND_COMMAND`. -/
theorem sessionRun_meets (c : SessionCaller) (w : State) :
    Meets c (goto (.session c .leadIdle) w) (sessionRun w.shape w) := by
  refine meets_idleByte (step_leadIdle rfl) (fun _ _ hf => sessionGoOn_fail hf) (fun h => by rw [sessionRun, h])
    (fun v h => by rw [sessionRun, h]) fun e r rest hf h => ?_
  rw [sessionGoOn_ok hf]
  refine meets_action rfl (step_select rfl) (fun hr => ?_) fun r' rest' hr => ?_
  · simp only [sessionRun, h, callSel_nil (w := withEvent e rest w) hr]
  · simp only [sessionRun, h, callSel_cons (w := withEvent e rest w) hr]
    exact sessionSettle_meets c (setCs .selected (withEvent .sel rest' (withEvent e rest w)))

/-! ### The obligation -/

/-- Settles O58: the session of the host, whose end returns the outcome to it. -/
theorem sessionMeetsItsPseudocode : Obligations.SessionMeetsItsPseudocode := by
  intro s hs
  have hstart : goto (.session .host .leadIdle) s = s := by rw [← hs]; rfl
  have h := sessionRun_meets .host s
  rw [hstart] at h
  exact ⟨h.returns, h.waits⟩

end Sys2Proof.Machine

/-! Scope: `BRINGUP` position by position: its idle bytes, its four commands, what a status decides at each place that
waits for one, its epilogues and its return. -/

namespace Sys2Proof.Machine

variable {s : State} {c : SessionCaller} {rest : List Reply}

/-! ### The idle bytes of step 1 -/

theorem preIdleNext_of_lt {sent : Nat} (h : sent < s.params.preResetIdleBytes) :
    preIdleNext sent s = goto (.preIdle sent) s :=
  if_pos h

theorem preIdleNext_of_ge {sent : Nat} (h : s.params.preResetIdleBytes ≤ sent) :
    preIdleNext sent s = goto .resetSelect s :=
  if_neg (Nat.not_lt.mpr h)

/-- An answered idle byte only counts and is recorded (R151). -/
theorem step_preIdle_ok {sent : Nat} {b : Byte} (hs : s.seq = .preIdle sent) (hr : s.replies = okReply b :: rest) :
    step s = .next (preIdleNext (sent + 1) (withEvent (idleByteEvent b) rest s)) :=
  step_action (step_preIdle hs) hr

theorem step_preIdle_fail {sent : Nat} {x : Byte} (hs : s.seq = .preIdle sent)
    (hr : s.replies = { fail := true, data := x } :: rest) :
    step s = .next (finishBringup .errSendFailed (withEvent (.xchg Config.idleByte none) rest s)) :=
  step_action (step_preIdle hs) hr

/-- As many answered bytes as step 1 still has to send lead to step 2 (R151, R152). -/
theorem runSteps_preIdle {sent : Nat} {answers : List Byte}
    (hlen : sent + answers.length = s.params.preResetIdleBytes) (hr : s.replies = answers.map okReply ++ rest) :
    runSteps answers.length (preIdleNext sent s) = .next
      { s with seq := .resetSelect, replies := rest, trace := s.trace ++ answers.map idleByteEvent } := by
  induction answers generalizing sent s with
  | nil =>
    obtain rfl : s.replies = rest := hr
    have hge : s.params.preResetIdleBytes ≤ sent := hlen.ge
    rw [preIdleNext_of_ge hge, List.map_nil, List.append_nil]
    rfl
  | cons b answers ih =>
    rw [List.length_cons] at hlen ⊢
    let u : State := withEvent (idleByteEvent b) (answers.map okReply ++ rest) s
    have hstep : step (preIdleNext sent s) = .next (preIdleNext (sent + 1) u) := by
      rw [preIdleNext_of_lt (by omega)]
      exact step_preIdle_ok (s := goto (.preIdle sent) s) rfl hr
    rw [runSteps_succ hstep, ih (s := u) ((Nat.add_right_comm sent 1 _).trans hlen) rfl, List.map_cons,
      List.append_cons]
    rfl

/-! ### What a response decides -/

theorem rspArea_rspWrite_status (r : Rsp) (v : Byte) : rspArea (rspWrite r .status 0 v) .status = [v] := by
  obtain ⟨x, hx⟩ := List.length_eq_one_iff.mp (rspArea_length r .status)
  rw [rspArea_rspWrite_self, hx]
  rfl

/-- A poll for a status answered with another byte than `0xFF` ends its session with that status (R132, R144). -/
theorem step_poll_status {b : Byte} (hs : s.seq = .session c .poll) (hshape : s.shape = .status)
    (hr : s.replies = okReply b :: rest) (hb : b ≠ Config.idleByte) :
    step s =
      .next (endSession c (.response [b]) (storeByte 0 b (withEvent (idleByteEvent b) rest s))) := by
  let u : State := withEvent (idleByteEvent b) rest s
  have hlast : afterPoll c (okReply b) u = respond c (storeByte 0 b u) :=
    afterPoll_last rfl hb (congrArg shapeLength hshape)
  have hresponse : rspArea (storeByte 0 b u).rsp (storeByte 0 b u).shape = [b] := by
    rw [storeByte_rsp, storeByte_shape, show u.shape = .status from hshape, rspArea_rspWrite_status]
  rw [step_action (step_poll hs) hr, show xchgEvent Config.idleByte (okReply b) = idleByteEvent b from rfl, hlast,
    respond, hresponse]

theorem endSession_outcome (c : SessionCaller) (o : SessionOutcome) (s : State) :
    (endSession c o s).outcome = some o := by
  obtain ⟨res, p, v, h⟩ := endSession_moves c o s
  rw [h]

theorem afterEpilogue_kept (st : BringupStep) (r : Reply) (s : State) : SequencerKept s (afterEpilogue st r s) := by
  obtain ⟨n, h⟩ := afterEpilogue_moves st r s
  exact SequencerKept.of_update h.kept

theorem afterEpilogue_rsp (st : BringupStep) (r : Reply) (s : State) : (afterEpilogue st r s).rsp = s.rsp := by
  obtain ⟨n, p, v, h⟩ := afterEpilogue_moves st r s
  rw [h]

theorem nextAttempt_of_lt (h : s.resetTry < s.params.resetRetryMax) : nextAttempt s = goto .resetAttempt s := if_pos h

theorem nextAttempt_of_ge (h : s.params.resetRetryMax ≤ s.resetTry) :
    nextAttempt s = enterEpilogue .reset (some .errReset) s :=
  if_neg (Nat.not_lt.mpr h)

theorem nextRound_of_lt (h : s.round < s.params.handshakeRoundsMax) : nextRound s = goto .roundPrefix s := if_pos h

theorem nextRound_of_ge (h : s.params.handshakeRoundsMax ≤ s.round) :
    nextRound s = enterEpilogue .handshake (some .errInit) s :=
  if_neg (Nat.not_lt.mpr h)

/-- The three statuses of `RESET_ACCEPT` (R154); a legacy status is a byte value below 255. -/
theorem resetAccepted_singleton (q : Params) (b : Byte) :
    resetAccepted q [b] = true ↔ b = 0x01#8 ∨ b.toNat = q.resetLegacyA.val ∨ b.toNat = q.resetLegacyB.val := by
  have hlegacy : ∀ v : Fin 255, b = legacyByte v ↔ b.toNat = v.val := fun v => by
    rw [legacyByte, ← BitVec.toNat_inj, BitVec.toNat_ofNat, Nat.mod_eq_of_lt (v.isLt.trans (by decide))]
  simp [resetAccepted, resetAccept, hlegacy, Config.idleStatus]

/-- The three echoes of the interface check (R158). -/
theorem ifcondValid_five (b0 b1 b2 b3 b4 : Byte) :
    ifcondValid [b0, b1, b2, b3, b4] = true ↔ b0 = 0x01#8 ∧ b3 = 0x01#8 ∧ b4 = 0xAA#8 := by
  simp [ifcondValid, Config.idleStatus, Config.ifcondVoltage, Config.ifcondPattern, and_assoc]

/-! ### The obligations -/

/-- Settles O30: the `DESEL`, the idle bytes counted down, and the failure exit of a failed one. -/
theorem preResetSendsItsIdleBytes : Obligations.PreResetSendsItsIdleBytes := by
  refine ⟨fun s r answers rest hs hlen hr => ?_, rfl, by decide, fun s sent x rest hs hr => ?_⟩
  · let u : State := setCs .deselected (withEvent .desel (answers.map okReply ++ rest) s)
    have hfirst : runSteps 1 s = .next (preIdleNext 0 u) := runSteps_succ (step_action (step_preDeselect hs) hr)
    rw [runSteps_add hfirst, runSteps_preIdle (s := u) ((Nat.zero_add _).trans hlen) rfl, List.append_cons]
    rfl
  · rw [runSteps_succ (step_preIdle_fail hs hr), runSteps_succ (step_done (finishBringup_seq _ _)), runSteps_zero]
    rfl

/-- Settles O32: `RESET_ACCEPT` decides between the epilogue and the loop head, which decides by the attempts left. -/
theorem resetStatusDecidesTheAttempt : Obligations.ResetStatusDecidesTheAttempt := by
  intro s b rest hs hshape hr hb
  let u : State := { storeByte 0 b (withEvent (idleByteEvent b) rest s) with outcome := some (.response [b]) }
  refine ⟨_, step_poll_status hs hshape hr hb, endSession_outcome _ _ _, (endSession_kept _ _ _).trace,
    fun hacc => ?_, fun hrej => ?_⟩
  · have haccepted : resetAccepted u.params [b] = true := (resetAccepted_singleton _ b).mpr hacc
    have hend : afterReset (.response [b]) u = enterEpilogue .reset none u := by simp [afterReset, haccepted]
    rw [endSession, hend]
    exact ⟨rfl, rfl⟩
  · have hrejected : ¬resetAccepted u.params [b] = true := fun h => hrej ((resetAccepted_singleton _ b).mp h)
    have hend : afterReset (.response [b]) u = nextAttempt u := by simp [afterReset, hrejected]
    rw [endSession, hend]
    refine ⟨fun hlt => ?_, fun hle => ?_⟩
    · rw [nextAttempt_of_lt (s := u) hlt, goto_seq]
    · rw [nextAttempt_of_ge (s := u) hle]
      exact ⟨rfl, rfl⟩

/-- Settles O33: the last byte of the burst completes the response, and its three echoes give the verdict. -/
theorem ifcheckResponseDecidesTheVerdict : Obligations.IfcheckResponseDecidesTheVerdict := by
  intro s b0 b1 b2 b3 old b4 rest hs hshape hidx harea hr
  let u : State := withEvent (idleByteEvent b4) rest s
  have hlast : afterBurst .ifcheck (okReply b4) u = respond .ifcheck (storeByte s.burstIdx b4 u) :=
    afterBurst_last rfl (by simp [u, withEvent, hshape, hidx, shapeLength])
  have hresponse :
      rspArea (storeByte s.burstIdx b4 u).rsp (storeByte s.burstIdx b4 u).shape = [b0, b1, b2, b3, b4] := by
    rw [storeByte_rsp, storeByte_shape, rspArea_rspWrite_self, show u.shape = .ifcond from hshape, hidx,
      show rspArea u.rsp .ifcond = _ from harea]
    rfl
  refine ⟨_, (step_action (step_burst hs) hr).trans (congrArg _ hlast), ?_⟩
  rw [respond, hresponse]
  have hvalid := ifcondValid_five b0 b1 b2 b3 b4
  refine ⟨rfl, rfl, fun hecho => ?_, fun hecho => ?_⟩
  · exact if_pos (hvalid.mpr hecho)
  · exact if_neg fun h => hecho (hvalid.mp h)

/-- Settles O34: the status `0x01` leads to the initialization command, any other to the loop head. -/
theorem prefixStatusDecidesTheRound : Obligations.PrefixStatusDecidesTheRound := by
  intro s b rest hs hshape hr hb
  let u : State := { storeByte 0 b (withEvent (idleByteEvent b) rest s) with outcome := some (.response [b]) }
  have hrejected : b ≠ 0x01#8 → afterPrefix (.response [b]) u = nextRound u := fun hne => by
    simp [afterPrefix, prefixAccepted, Config.idleStatus, hne]
  refine ⟨_, step_poll_status hs hshape hr hb, endSession_outcome _ _ _, (endSession_kept _ _ _).trace,
    fun hacc => ?_, fun hne hlt => ?_, fun hne hle => ?_⟩
  · rw [hacc]
    rfl
  · rw [endSession, hrejected hne, nextRound_of_lt (s := u) hlt, goto_seq]
  · rw [endSession, hrejected hne, nextRound_of_ge (s := u) hle]
    exact ⟨rfl, rfl⟩

/-- Settles O35: the status `0x00` leaves the handshake without a verdict, any other leads to the loop head. -/
theorem initStatusDecidesTheHandshake : Obligations.InitStatusDecidesTheHandshake := by
  intro s b rest hs hshape hr hb
  let u : State := { storeByte 0 b (withEvent (idleByteEvent b) rest s) with outcome := some (.response [b]) }
  have hrejected : b ≠ 0x00#8 → afterInit (.response [b]) u = nextRound u := fun hne => by
    simp [afterInit, initReady, Config.readyStatus, hne]
  refine ⟨_, step_poll_status hs hshape hr hb, endSession_outcome _ _ _, fun hacc => ?_, fun hne hlt => ?_,
    fun hne hle => ?_⟩
  · rw [hacc]
    exact ⟨rfl, rfl⟩
  · rw [endSession, hrejected hne, nextRound_of_lt (s := u) hlt, goto_seq]
  · rw [endSession, hrejected hne, nextRound_of_ge (s := u) hle]
    exact ⟨rfl, rfl⟩

/-- Settles O38: the two actions of an epilogue, then the verdict, the failed byte or the next step. -/
theorem epilogueDeselectsAndDecides : Obligations.EpilogueDeselectsAndDecides := by
  intro s st r e rest hs hr
  let u : State := withEvent (xchgEvent Config.idleByte e) rest
    (goto (.epilogueIdle st) (setCs .deselected (withEvent .desel (e :: rest) s)))
  have hrun : runSteps 2 s = .next (afterEpilogue st e u) := by
    rw [runSteps_succ (step_action (step_epilogueDeselect hs) hr),
      runSteps_succ (step_action (step_epilogueIdle (st := st) rfl) rfl), runSteps_zero]
  obtain ⟨-, hcs, -, -, hreplies, htrace⟩ := afterEpilogue_kept st e u
  refine ⟨afterEpilogue st e u, hrun, hcs, hreplies, ?_, afterEpilogue_rsp st e u, fun code hcode => ?_,
    fun hcode hf => ?_, fun hcode hf hst => ?_, fun hcode hf hst hpos => ?_, fun hcode hf hst hzero => ?_, fun hcode hf hst => ?_⟩
  · rw [htrace]
    simp [u, withEvent, xchgEvent, Config.idleByte]
  · simp [afterEpilogue, u, withEvent, hcode]
  · simp [afterEpilogue, u, withEvent, hcode, hf]
  all_goals
    have hnext : afterEpilogue st e u = nextStep st u := by simp [afterEpilogue, u, withEvent, hcode, hf]
    rw [hnext, hst]
  · rfl
  · rw [nextStep, enterHandshake, nextRound_of_lt hpos]
    exact ⟨rfl, rfl⟩
  · rw [nextStep, enterHandshake, nextRound_of_ge hzero.le]
    exact ⟨rfl, rfl⟩
  · exact ⟨rfl, rfl⟩

/-- Settles O17: each of the four positions has its own caller; only the initialization command runs the CRC engine. -/
theorem commandsOfBringupCountAndStart : Obligations.CommandsOfBringupCountAndStart := by
  refine fun s => ⟨fun hs => issueCommand_of_caller (c := .reset) (by rw [hs]; rfl),
    fun hs => issueCommand_of_caller (c := .ifcheck) (by rw [hs]; rfl),
    fun hs => issueCommand_of_caller (c := .roundPrefix) (by rw [hs]; rfl), fun hs => ?_⟩
  have hcrc : frameCrcReg 41#8 Config.acmd41Arg s.crc7Reg = 0x3B#7 := by
    rw [frameCrcReg_eq, if_neg (by decide)]
    decide +kernel
  refine (issueCommand_of_caller (c := .roundInit) (by rw [hs]; rfl)).trans ?_
  rw [startSession, buildCommand, framerBuild, hcrc]
  rfl

/-- Settles O39: the return at `DONE`, whose code is the verdict that stands. -/
theorem doneReturnsTheCode : Obligations.DoneReturnsTheCode := by
  intro s code hs hcode
  rw [step_done hs, returnStatus, hcode]
  rfl

end Sys2Proof.Machine

/-! Scope: where a step of a block at work can lead (R167): along the table of the coarse state, or to the `DONE` of a
`BRINGUP`; and what stands in the block at its end. -/

namespace Sys2Proof.Machine

variable {s t : State} {c : SessionCaller} {p : SessionPos} {ph : Phase}

/-! ### Steps along the table -/

/-- A step that does not end a `BRINGUP` moves along the table, and comes to rest only with a result (R167, R197). -/
structure MovesOn (ph : Phase) (t : State) : Prop where
  phase : phaseOf t.seq ∈ phaseNext ph
  not_done : t.seq ≠ .done
  result : t.seq = .idle → t.result ≠ none

theorem MovesOn.of_seq {q : SeqPos} (ht : t.seq = q) (hphase : phaseOf q ∈ phaseNext ph) (hdone : q ≠ .done)
    (hidle : q ≠ .idle) : MovesOn ph t :=
  ⟨ht ▸ hphase, ht ▸ hdone, fun h => absurd (ht.symm.trans h) hidle⟩

/-- The coarse state of a session is that of whoever called it. -/
def sessionPhase (c : SessionCaller) : Phase := phaseOf (.session c .leadIdle)

theorem phaseOf_session (c : SessionCaller) (p : SessionPos) : phaseOf (.session c p) = sessionPhase c := by
  cases c <;> rfl

theorem phaseOf_epilogueIdle (st : BringupStep) : phaseOf (.epilogueIdle st) = phaseOf (.epilogueDeselect st) := by
  cases st <;> rfl

theorem mem_phaseNext_self (h : ph ≠ .done) : ph ∈ phaseNext ph := by
  cases ph with
  | done => exact absurd rfl h
  | _ => exact List.mem_cons_self

theorem phaseOf_ne_done {q : SeqPos} (h : q ≠ .done) : phaseOf q ≠ .done := by
  cases q with
  | done => exact absurd rfl h
  | session c p => rw [phaseOf_session]; cases c <;> decide
  | epilogueDeselect st | epilogueIdle st => cases st <;> decide
  | _ => exact nofun

theorem MovesOn.stays {q : SeqPos} (ht : t.seq = q) (hdone : q ≠ .done) (hidle : q ≠ .idle) :
    MovesOn (phaseOf q) t :=
  .of_seq ht (mem_phaseNext_self (phaseOf_ne_done hdone)) hdone hidle

theorem session_movesOn {q : SessionPos} (ht : t.seq = .session c q) : MovesOn (sessionPhase c) t :=
  phaseOf_session c q ▸ MovesOn.stays ht nofun nofun

theorem preIdleNext_movesOn (sent : Nat) (s : State) : MovesOn .preReset (preIdleNext sent s) := by
  unfold preIdleNext
  split
  · exact .of_seq (goto_seq _ _) (by simp [phaseOf, phaseNext]) nofun nofun
  · exact .of_seq (goto_seq _ _) (by decide) nofun nofun

theorem nextAttempt_movesOn (s : State) : MovesOn .reset (nextAttempt s) := by
  obtain ⟨-, heq⟩ | ⟨-, heq⟩ := nextAttempt_cases s <;> rw [heq]
  · exact .of_seq (goto_seq _ _) (by decide) nofun nofun
  · exact .of_seq (enterEpilogue_seq _ _ _) (by decide) nofun nofun

theorem nextRound_movesOn (s : State) (h : .handshake ∈ phaseNext ph) : MovesOn ph (nextRound s) := by
  obtain ⟨-, heq⟩ | ⟨-, heq⟩ := nextRound_cases s <;> rw [heq]
  · exact .of_seq (goto_seq _ _) h nofun nofun
  · exact .of_seq (enterEpilogue_seq _ _ _) h nofun nofun

/-- A session of the host ends with its outcome as the result, one of `BRINGUP` in the step that called it. -/
theorem endSession_movesOn (c : SessionCaller) (o : SessionOutcome) (s : State) :
    MovesOn (sessionPhase c) (endSession c o s) := by
  let u : State := { s with outcome := some o }
  cases c with
  | host => exact ⟨by simp [endSession, sessionPhase, phaseOf, phaseNext], nofun, nofun⟩
  | ifcheck => exact .of_seq (enterEpilogue_seq _ _ _) (by decide) nofun nofun
  | reset =>
    obtain ⟨-, heq⟩ | ⟨_, -, -, heq⟩ | ⟨-, heq⟩ := afterReset_cases o u <;> rw [endSession, heq]
    · exact .of_seq (enterEpilogue_seq _ _ _) (by decide) nofun nofun
    · exact .of_seq (enterEpilogue_seq _ _ _) (by decide) nofun nofun
    · exact nextAttempt_movesOn u
  | roundPrefix =>
    obtain ⟨-, heq⟩ | ⟨_, -, -, heq⟩ | ⟨-, heq⟩ := afterPrefix_cases o u <;> rw [endSession, heq]
    · exact .of_seq (enterEpilogue_seq _ _ _) (by decide) nofun nofun
    · exact .of_seq (goto_seq _ _) (by decide) nofun nofun
    · exact nextRound_movesOn u (by decide)
  | roundInit =>
    obtain ⟨-, heq⟩ | ⟨-, heq⟩ | ⟨-, heq⟩ := afterInit_cases o u <;> rw [endSession, heq]
    · exact .of_seq (enterEpilogue_seq _ _ _) (by decide) nofun nofun
    · exact .of_seq (enterEpilogue_seq _ _ _) (by decide) nofun nofun
    · exact nextRound_movesOn u (by decide)

/-! ### Inside a session -/

/-- The session goes on for the same caller, or ends. -/
def InSessionOrEnded (c : SessionCaller) (t : State) : Prop :=
  (∃ q, t.seq = .session c q) ∨ ∃ o u, t = endSession c o u

theorem sessionGoOn_inSession (c : SessionCaller) (p : SessionPos) (r : Reply) (s : State) :
    InSessionOrEnded c (sessionGoOn c p r s) := by
  unfold sessionGoOn
  split
  · exact .inl ⟨_, failSession_seq s c⟩
  · exact .inl ⟨_, goto_seq s _⟩

theorem enterPoll_inSession (c : SessionCaller) (s : State) : InSessionOrEnded c (enterPoll c s) := by
  obtain ⟨-, heq⟩ | ⟨-, heq⟩ := enterPoll_cases c s <;> rw [heq]
  · exact .inl ⟨_, rfl⟩
  · exact .inr ⟨_, _, rfl⟩

theorem afterPoll_inSession (c : SessionCaller) (r : Reply) (s : State) : InSessionOrEnded c (afterPoll c r s) := by
  unfold afterPoll
  split
  · exact .inl ⟨_, failSession_seq s c⟩
  split
  · exact enterPoll_inSession c s
  split
  · exact .inr ⟨_, _, rfl⟩
  · exact .inl ⟨_, rfl⟩

theorem afterBurst_inSession (r : Reply) (hs : s.seq = .session c .burst) :
    InSessionOrEnded c (afterBurst c r s) := by
  unfold afterBurst
  split
  · exact .inl ⟨_, failSession_seq s c⟩
  split
  · exact .inl ⟨_, hs⟩
  · exact .inr ⟨_, _, rfl⟩

theorem inSession_of_awaitReply {event : Reply → Event} {goOn : Reply → State → State} (hs : s.seq = .session c p)
    (h : awaitReply event goOn s = .next t)
    (hgo : ∀ r u, u.seq = .session c p → InSessionOrEnded c (goOn r u)) : InSessionOrEnded c t := by
  obtain ⟨-, ht⟩ | ⟨r, rest, -, ht⟩ := awaitReply_cases h <;> rw [Host.Outcome.next.inj ht]
  · exact .inl ⟨p, hs⟩
  · exact hgo r _ hs

theorem session_step_cases (hs : s.seq = .session c p) (h : step s = .next t) : InSessionOrEnded c t := by
  cases p with
  | leadIdle => exact inSession_of_awaitReply hs (step_leadIdle hs ▸ h) fun r u _ => sessionGoOn_inSession c _ r u
  | select => exact inSession_of_awaitReply hs (step_select hs ▸ h) fun _ _ _ => .inl ⟨_, rfl⟩
  | settleIdle => exact inSession_of_awaitReply hs (step_settleIdle hs ▸ h) fun r u _ => sessionGoOn_inSession c _ r u
  | sendFrame => exact inSession_of_awaitReply hs (step_sendFrame hs ▸ h) fun r u _ => sessionGoOn_inSession c _ r u
  | tailIdle => exact inSession_of_awaitReply hs (step_tailIdle hs ▸ h) fun r u _ => sessionGoOn_inSession c _ r u
  | deselect => exact inSession_of_awaitReply hs (step_deselect hs ▸ h) fun _ _ _ => .inl ⟨_, rfl⟩
  | dispatch => exact Host.Outcome.next.inj ((step_dispatch hs).symm.trans h) ▸ enterPoll_inSession c _
  | poll => exact inSession_of_awaitReply hs (step_poll hs ▸ h) fun r u _ => afterPoll_inSession c r u
  | burst => exact inSession_of_awaitReply hs (step_burst hs ▸ h) fun r _ hu => afterBurst_inSession r hu
  | failDeselect => exact inSession_of_awaitReply hs (step_failDeselect hs ▸ h) fun _ _ _ => .inr ⟨_, _, rfl⟩

theorem session_step_movesOn (hs : s.seq = .session c p) (h : step s = .next t) : MovesOn (sessionPhase c) t := by
  obtain ⟨q, hq⟩ | ⟨o, u, rfl⟩ := session_step_cases hs h
  · exact session_movesOn hq
  · exact endSession_movesOn c o u

/-! ### The step that ends a `BRINGUP` -/

/-- An `XCHG` comes back and `BRINGUP` ends with `code`: an idle byte of step 1 failed, or an epilogue ended with the
step's verdict, with a failed byte, or as the last (R163, R165). -/
def Decides (code : StatusCode) (s t : State) : Prop :=
  ∃ r rest, t = finishBringup code (withEvent (xchgEvent Config.idleByte r) rest s) ∧
    ((∃ sent, s.seq = .preIdle sent ∧ r.fail = true ∧ code = .errSendFailed) ∨
      ∃ st, s.seq = .epilogueIdle st ∧
        (s.statusCode = some code ∨ code = .errSendFailed ∨ (st = .handshake ∧ code = .ok)))

/-- An action that moves along the table moves along it whether or not it has its return. -/
theorem movesOn_of_awaitReply {event : Reply → Event} {goOn : Reply → State → State} {q : SeqPos} (hs : s.seq = q)
    (hdone : q ≠ .done) (hidle : q ≠ .idle) (h : awaitReply event goOn s = .next t)
    (hgo : ∀ r u, MovesOn (phaseOf q) (goOn r u)) : MovesOn (phaseOf q) t := by
  obtain ⟨-, ht⟩ | ⟨r, rest, -, ht⟩ := awaitReply_cases h <;> rw [Host.Outcome.next.inj ht]
  · exact .stays hs hdone hidle
  · exact hgo r _

theorem preIdle_step_cases {sent : Nat} (hs : s.seq = .preIdle sent) (h : step s = .next t) :
    MovesOn .preReset t ∨ ∃ code, Decides code s t := by
  rw [step_preIdle hs] at h
  obtain ⟨-, ht⟩ | ⟨r, rest, -, ht⟩ := awaitReply_cases h <;> rw [Host.Outcome.next.inj ht]
  · exact .inl (.stays hs nofun nofun)
  · split
    · next hf => exact .inr ⟨.errSendFailed, r, rest, rfl, .inl ⟨sent, hs, hf, rfl⟩⟩
    · exact .inl (preIdleNext_movesOn _ _)

theorem epilogueIdle_step_cases {st : BringupStep} (hs : s.seq = .epilogueIdle st) (h : step s = .next t) :
    MovesOn (phaseOf (.epilogueIdle st)) t ∨ ∃ code, Decides code s t := by
  rw [step_epilogueIdle hs] at h
  obtain ⟨-, ht⟩ | ⟨r, rest, -, ht⟩ := awaitReply_cases h <;> rw [Host.Outcome.next.inj ht]
  · exact .inl (.stays hs nofun nofun)
  · let u : State := withEvent (xchgEvent Config.idleByte r) rest s
    obtain ⟨code, hcode, heq⟩ | ⟨-, -, heq⟩ | ⟨-, -, heq⟩ := afterEpilogue_cases st r u
    · exact .inr ⟨code, r, rest, heq, .inr ⟨st, hs, .inl hcode⟩⟩
    · exact .inr ⟨.errSendFailed, r, rest, heq, .inr ⟨st, hs, .inr (.inl rfl)⟩⟩
    · cases st with
      | reset => exact .inl (heq ▸ .of_seq (goto_seq u _) (by decide) nofun nofun)
      | ifcheck => exact .inl (heq ▸ nextRound_movesOn { u with round := 0 } (by decide))
      | handshake => exact .inr ⟨.ok, r, rest, heq, .inr ⟨.handshake, hs, .inr (.inr ⟨rfl, rfl⟩)⟩⟩

/-- A step of a block at work moves along the table, or ends a `BRINGUP`. -/
theorem busy_step_cases (hbusy : s.seq ≠ .idle) (hinv : State.Inv s) (h : step s = .next t) :
    MovesOn (phaseOf s.seq) t ∨ ∃ code, Decides code s t := by
  cases hs : s.seq with
  | idle => exact absurd hs hbusy
  | session c p => exact .inl (phaseOf_session c p ▸ session_step_movesOn hs h)
  | preIdle sent => exact preIdle_step_cases hs h
  | epilogueIdle st => exact epilogueIdle_step_cases hs h
  | done =>
    obtain ⟨-, hseq⟩ := inv_iff.mp hinv
    simp only [seqInv, hs] at hseq
    obtain ⟨-, hcode, -⟩ := hseq
    rw [← Host.Outcome.next.inj ((step_done hs).symm.trans h)]
    exact .inl ⟨List.mem_singleton_self _, nofun, fun _ => by simpa [returnStatus] using hcode⟩
  | preDeselect =>
    exact .inl (movesOn_of_awaitReply hs nofun nofun (step_preDeselect hs ▸ h) fun _ _ => preIdleNext_movesOn _ _)
  | resetSelect =>
    exact .inl (movesOn_of_awaitReply hs nofun nofun (step_resetSelect hs ▸ h) fun _ _ => nextAttempt_movesOn _)
  | epilogueDeselect st =>
    exact .inl (movesOn_of_awaitReply hs nofun nofun (step_epilogueDeselect hs ▸ h) fun _ _ =>
      phaseOf_epilogueIdle st ▸ .stays (q := .epilogueIdle st) (goto_seq _ _) nofun nofun)
  | resetAttempt =>
    rw [← Host.Outcome.next.inj ((step_resetAttempt hs).symm.trans h)]
    exact .inl (session_movesOn (startSession_seq _ .reset _))
  | ifcheckCommand =>
    rw [← Host.Outcome.next.inj ((step_ifcheckCommand hs).symm.trans h)]
    exact .inl (session_movesOn (startSession_seq _ .ifcheck _))
  | roundPrefix =>
    rw [← Host.Outcome.next.inj ((step_roundPrefix hs).symm.trans h)]
    exact .inl (session_movesOn (startSession_seq _ .roundPrefix _))
  | roundInit =>
    rw [← Host.Outcome.next.inj ((step_roundInit hs).symm.trans h)]
    exact .inl (session_movesOn (startSession_seq _ .roundInit _))

theorem mem_phaseCodes_of_stepVerdicts {st : BringupStep} {code : StatusCode} (h : some code ∈ stepVerdicts st) :
    code ∈ phaseCodes (phaseOf (.epilogueIdle st)) := by
  cases st with
  | reset | ifcheck => simpa [stepVerdicts, phaseCodes, phaseOf] using h
  | handshake => exact List.mem_cons_of_mem _ (by simpa [stepVerdicts] using h)

theorem Decides.code_mem_phaseCodes {code : StatusCode} (h : Decides code s t) (hinv : State.Inv s) :
    code ∈ phaseCodes (phaseOf s.seq) := by
  obtain ⟨r, rest, -, ⟨sent, hs, -, rfl⟩ | ⟨st, hs, hcode⟩⟩ := h
  · rw [hs]
    exact List.mem_singleton_self _
  · obtain ⟨-, hseq⟩ := inv_iff.mp hinv
    simp only [seqInv, hs] at hseq
    obtain ⟨-, hverdict, -⟩ := hseq
    rw [hs]
    obtain hcode | rfl | ⟨rfl, rfl⟩ := hcode
    · exact mem_phaseCodes_of_stepVerdicts (hcode ▸ hverdict)
    · cases st <;> decide
    · decide

/-! ### Requests of the idle block -/

/-- A request leaves the block idle, begins a session of the host or begins `BRINGUP`. -/
theorem host_exec_seq {i : Instr} (hhost : isHostInstr i = true) (hs : s.seq = .idle) (h : exec i s = .next t) :
    t.seq = .idle ∨ t.seq = .session .host .leadIdle ∨ t.seq = .preDeselect := by
  have hcommand : ∀ {index arg sh}, issueCommand index arg sh s = .next t → t.seq = .session .host .leadIdle := by
    intro index arg sh hcmd
    rw [issueCommand_idle hs] at hcmd
    rw [← Host.Outcome.next.inj hcmd, startSession_seq]
  have hbuild : ∀ {index arg}, buildFrameRequest index arg s = .next t → t.seq = .idle := by
    intro index arg hreq
    obtain ⟨-, rfl⟩ | ⟨-, rfl⟩ := buildFrameRequest_cases hreq
    · exact hs
    · exact hs
  cases i with
  | sel | desel | xchg _ | xmit _ | shapeStatus | shapeBusy | shapeStatus2 | shapeOcr | shapeIfcond
  | shapeReserved101 | shapeReserved110 | shapeReserved111 => exact nomatch hhost
  | opReserved000 | opReserved110 | opReserved111 => exact .inl (Host.Outcome.next.inj h ▸ hs)
  | crc7 bytes => exact .inl (Host.Outcome.next.inj ((exec_crc7_idle bytes hs).symm.trans h) ▸ hs)
  | crc16 bytes => exact .inl (Host.Outcome.next.inj ((exec_crc16_idle bytes hs).symm.trans h) ▸ hs)
  | bringup => exact .inr (.inr (Host.Outcome.next.inj ((exec_bringup_idle hs).symm.trans h) ▸ rfl))
  | buildFrame index arg => exact .inl (hbuild h)
  | sendCommand code =>
    obtain ⟨sh, -, -, -, rfl⟩ | ⟨-, rfl⟩ := execSendCommand_cases h
    · exact .inr (.inl rfl)
    · exact .inl hs
  | cmd0 | cmd8 | cmd55 | acmd41 => exact .inr (.inl (hcommand h))
  | cmdN n arg g code =>
    simp only [exec, execCmdN] at h
    split at h
    · exact .inr (.inl (hcommand h))
    · exact .inl (hbuild h)

theorem idle_step_seq (hs : s.seq = .idle) (h : step s = .next t) :
    t.seq = .idle ∨ t.seq = .session .host .leadIdle ∨ t.seq = .preDeselect := by
  obtain ⟨hdone, -⟩ | ⟨-, -, rfl⟩ | ⟨q, rest, i, -, -, hdec, hi⟩ | ⟨i, hi, -⟩ := step_cases h
  · exact nomatch hs.symm.trans hdone
  · exact .inl hs
  · exact host_exec_seq (s := { s with requests := rest }) (isHostInstr_of_request hdec) hs hi
  · simp [issuedInstr, hs] at hi

/-! ### The obligations -/

/-- Settles O51: the idle block follows the table by its requests, a block at work by its position, and the one step to
`DONE` has a code of its step. -/
theorem coarseStatesFollowTheirTable : Obligations.CoarseStatesFollowTheirTable := by
  intro s t hinv h
  by_cases hs : s.seq = .idle
  · rw [hs]
    obtain hq | hq | hq := idle_step_seq hs h <;> rw [hq] <;> exact ⟨by decide, nofun⟩
  · obtain hon | ⟨code, hdec⟩ := busy_step_cases hs hinv h
    · exact ⟨hon.phase, fun hdone => absurd hdone hon.not_done⟩
    · have hcode := hdec.code_mem_phaseCodes hinv
      obtain ⟨r, rest, rfl, -⟩ := hdec
      refine ⟨?_, fun _ => ⟨code, finishBringup_statusCode _ code, hcode⟩⟩
      rw [finishBringup_seq]
      revert hcode
      cases phaseOf s.seq <;> simp [phaseCodes, phaseNext, phaseOf]

/-- Settles O52: the step that decides the code is an `XCHG` of step 1 or of an epilogue, and the invariant has the card
deselected at `DONE`. -/
theorem bringupEndsDeselected : Obligations.BringupEndsDeselected := by
  intro s t hinv h hdone
  have hbusy : s.seq ≠ .idle := fun hs => by
    obtain hq | hq | hq := idle_step_seq hs h <;> exact nomatch hq.symm.trans hdone
  obtain ⟨-, hseq⟩ := inv_iff.mp (step_inv hinv h)
  simp only [seqInv, hdone] at hseq
  obtain ⟨hcs, -⟩ := hseq
  obtain hon | ⟨code, r, rest, rfl, hplace⟩ := busy_step_cases hbusy hinv h
  · exact absurd hdone hon.not_done
  · refine ⟨hcs, _, rfl, ?_⟩
    obtain ⟨sent, hs, hf, -⟩ | ⟨st, hs, -⟩ := hplace
    · exact .inl ⟨⟨sent, hs⟩, if_pos hf⟩
    · exact .inr ⟨st, hs⟩

/-- Settles O53: success is decided only with the ready status seen, which fixes the live area and the frame. -/
theorem afterOkTheBufferShowsReady : Obligations.AfterOkTheBufferShowsReady := by
  intro s t hinv hs hcode h
  obtain ⟨⟨hframeInv, hlive, -⟩, hseq⟩ := inv_iff.mp hinv
  simp only [seqInv, hs] at hseq
  obtain ⟨hcs, -, hready⟩ := hseq
  obtain ⟨hbuilt, hframe, hshape, houtcome⟩ := hready hcode
  simp only [liveArea, houtcome, hshape] at hlive
  obtain ⟨harea, -, hothers⟩ := hlive
  obtain ⟨harg, -⟩ := hframeInv hbuilt
  rw [← Host.Outcome.next.inj ((step_done hs).symm.trans h)]
  refine ⟨by simp [hcode], hcs, harea.symm, fun sh hne b hb => ?_, ?_, ?_⟩
  · rw [returnStatus_rsp, hothers sh hne] at hb
    exact List.eq_of_mem_replicate hb
  · rw [returnStatus_frame, hframe]
    decide +kernel
  · rw [returnStatus_arg, harg, hframe]
    rfl

end Sys2Proof.Machine

/-! Scope: the steps an operation may still take (R169, R172): every step of a block at work takes one from them, so
with enough returns to come the operation ends (R221). -/

namespace Sys2Proof.Machine

variable {s t : State} {c : SessionCaller} {p : SessionPos}

/-! ### The bounds -/

theorem stepsLeft_session (hs : s.seq = .session c p) : stepsLeft s = sessionStepsLeft p s + callerStepsLeft c s := by
  simp [stepsLeft, hs]

/-- The steps after the epilogue of a step of `BRINGUP`. -/
def stepsAfterEpilogue (q : Params) (st : BringupStep) : Nat :=
  match st with
  | .reset => ifcheckSteps q
  | .ifcheck => handshakeSteps q q.handshakeRoundsMax
  | .handshake => 1

theorem stepsLeft_epilogueDeselect {st : BringupStep} (hs : s.seq = .epilogueDeselect st) :
    stepsLeft s = 2 + stepsAfterEpilogue s.params st := by
  cases st <;> simp [stepsLeft, hs, stepsAfterEpilogue]

theorem stepsLeft_epilogueIdle {st : BringupStep} (hs : s.seq = .epilogueIdle st) :
    stepsLeft s = 1 + stepsAfterEpilogue s.params st := by
  cases st <;> simp [stepsLeft, hs, stepsAfterEpilogue]

/-- The bound of a loop that goes on is the bound of one pass more than what the next one leaves. -/
theorem resetSteps_pred (q : Params) {n m : Nat} (h : n < m) :
    resetSteps q (m - n) = statusCommandSteps q + resetSteps q (m - (n + 1)) := by
  simp only [resetSteps, show m - n = m - (n + 1) + 1 by omega, Nat.succ_mul]
  omega

theorem handshakeSteps_pred (q : Params) {n m : Nat} (h : n < m) :
    handshakeSteps q (m - n) = 2 * statusCommandSteps q + handshakeSteps q (m - (n + 1)) := by
  simp only [handshakeSteps, show m - n = m - (n + 1) + 1 by omega, Nat.succ_mul]
  omega

/-! ### Loops and the end of a session -/

theorem preIdleNext_stepsLeft (sent : Nat) (s : State) :
    stepsLeft (preIdleNext sent s) ≤
      s.params.preResetIdleBytes - sent + 1 + resetSteps s.params s.params.resetRetryMax := by
  unfold preIdleNext
  split
  · exact Nat.le_refl _
  · exact Nat.add_le_add_right (Nat.le_add_left 1 _) _

theorem enterEpilogue_stepsLeft (st : BringupStep) (v : Option StatusCode) (s : State) :
    stepsLeft (enterEpilogue st v s) = 2 + stepsAfterEpilogue s.params st :=
  stepsLeft_epilogueDeselect (enterEpilogue_seq s st v)

/-- A step that is left in its loop is within the bound of the loop, however many passes are left. -/
theorem enterEpilogue_reset_stepsLeft (v : Option StatusCode) (n : Nat) (s : State) :
    stepsLeft (enterEpilogue .reset v s) ≤ resetSteps s.params n := by
  simp only [enterEpilogue_stepsLeft, stepsAfterEpilogue, resetSteps]
  omega

theorem enterEpilogue_handshake_stepsLeft (v : Option StatusCode) (n : Nat) (s : State) :
    stepsLeft (enterEpilogue .handshake v s) ≤ handshakeSteps s.params n := by
  simp only [enterEpilogue_stepsLeft, stepsAfterEpilogue, handshakeSteps]
  omega

theorem nextAttempt_stepsLeft (s : State) :
    stepsLeft (nextAttempt s) ≤ resetSteps s.params (s.params.resetRetryMax - s.resetTry) := by
  obtain ⟨-, heq⟩ | ⟨-, heq⟩ := nextAttempt_cases s <;> rw [heq]
  · exact Nat.le_refl _
  · exact enterEpilogue_reset_stepsLeft _ _ s

theorem nextRound_stepsLeft (s : State) :
    stepsLeft (nextRound s) ≤ handshakeSteps s.params (s.params.handshakeRoundsMax - s.round) := by
  obtain ⟨-, heq⟩ | ⟨-, heq⟩ := nextRound_cases s <;> rw [heq]
  · exact Nat.le_refl _
  · exact enterEpilogue_handshake_stepsLeft _ _ s

/-- A session that ends leaves its caller's share. -/
theorem endSession_stepsLeft (c : SessionCaller) (o : SessionOutcome) (s : State) :
    stepsLeft (endSession c o s) ≤ callerStepsLeft c s := by
  let u : State := { s with outcome := some o }
  cases c with
  | host => exact Nat.le_refl _
  | ifcheck => exact (enterEpilogue_stepsLeft .ifcheck (ifcheckVerdict o) u).le
  | reset =>
    obtain ⟨-, heq⟩ | ⟨_, -, -, heq⟩ | ⟨-, heq⟩ := afterReset_cases o u <;> rw [endSession, heq]
    · exact enterEpilogue_reset_stepsLeft _ _ u
    · exact enterEpilogue_reset_stepsLeft _ _ u
    · exact nextAttempt_stepsLeft u
  | roundPrefix =>
    have hrounds : handshakeSteps u.params (u.params.handshakeRoundsMax - u.round) ≤ callerStepsLeft .roundPrefix s :=
      Nat.le_add_left _ _
    obtain ⟨-, heq⟩ | ⟨_, -, -, heq⟩ | ⟨-, heq⟩ := afterPrefix_cases o u <;> rw [endSession, heq]
    · exact (enterEpilogue_handshake_stepsLeft _ _ u).trans hrounds
    · exact Nat.le_refl _
    · exact (nextRound_stepsLeft u).trans hrounds
  | roundInit =>
    obtain ⟨-, heq⟩ | ⟨-, heq⟩ | ⟨-, heq⟩ := afterInit_cases o u <;> rw [endSession, heq]
    · exact enterEpilogue_handshake_stepsLeft _ _ u
    · exact enterEpilogue_handshake_stepsLeft _ _ u
    · exact nextRound_stepsLeft u

/-! ### Inside a session -/

theorem goto_session_stepsLeft (c : SessionCaller) (p : SessionPos) (s : State) :
    stepsLeft (goto (.session c p) s) = sessionStepsLeft p s + callerStepsLeft c s :=
  stepsLeft_session (s := goto (.session c p) s) rfl

/-- The failure exit is one step (R134). -/
theorem failSession_stepsLeft (c : SessionCaller) (s : State) :
    stepsLeft (failSession c s) = 1 + callerStepsLeft c s :=
  goto_session_stepsLeft c .failDeselect s

theorem sessionStepsLeft_pos (p : SessionPos) (s : State) : 0 < sessionStepsLeft p s := by
  cases p <;> simp only [sessionStepsLeft] <;> omega

/-- The position after an action has one step less, and the failure exit no more than that. -/
theorem sessionGoOn_stepsLeft {q : SessionPos} (r : Reply) (h : sessionStepsLeft q s + 1 = sessionStepsLeft p s) :
    stepsLeft (sessionGoOn c q r s) < sessionStepsLeft p s + callerStepsLeft c s := by
  have hpos := sessionStepsLeft_pos q s
  unfold sessionGoOn
  split
  · rw [failSession_stepsLeft]
    omega
  · rw [goto_session_stepsLeft]
    omega

/-- Another poll is within the polls the bound leaves. -/
theorem enterPoll_stepsLeft (c : SessionCaller) (s : State) :
    stepsLeft (enterPoll c s) <
      pollBound s.params s.shape - s.pollCnt + (shapeLength s.shape - 1) + 2 + callerStepsLeft c s := by
  obtain ⟨hlt, heq⟩ | ⟨-, heq⟩ := enterPoll_cases c s <;> rw [heq]
  · have hpoll : stepsLeft { s with pollCnt := s.pollCnt + 1, seq := .session c .poll } =
        pollBound s.params s.shape - (s.pollCnt + 1) + (shapeLength s.shape - 1) + 2 + callerStepsLeft c s :=
      goto_session_stepsLeft c .poll { s with pollCnt := s.pollCnt + 1 }
    omega
  · have := endSession_stepsLeft c .timeout s
    omega

theorem respond_storeByte_stepsLeft (c : SessionCaller) (i : Nat) (v : Byte) (s : State) :
    stepsLeft (respond c (storeByte i v s)) ≤ callerStepsLeft c s :=
  endSession_stepsLeft c _ (storeByte i v s)

/-- A poll fails, is silent or is answered, and in each case less is left (R131, R132). -/
theorem afterPoll_stepsLeft (r : Reply) (s : State) :
    stepsLeft (afterPoll c r s) < sessionStepsLeft .poll s + callerStepsLeft c s := by
  simp only [sessionStepsLeft]
  unfold afterPoll
  split
  · rw [failSession_stepsLeft]
    omega
  split
  · exact enterPoll_stepsLeft c s
  split
  · have := respond_storeByte_stepsLeft c 0 r.data s
    omega
  · have hburst : stepsLeft { storeByte 0 r.data s with burstIdx := 1, seq := .session c .burst } =
        shapeLength s.shape - 1 + 1 + callerStepsLeft c s :=
      goto_session_stepsLeft c .burst { storeByte 0 r.data s with burstIdx := 1 }
    omega

/-- A byte of the burst; the invariant has one left (R132). -/
theorem afterBurst_stepsLeft (r : Reply) (hs : s.seq = .session c .burst) (hidx : s.burstIdx < shapeLength s.shape) :
    stepsLeft (afterBurst c r s) < sessionStepsLeft .burst s + callerStepsLeft c s := by
  simp only [sessionStepsLeft]
  unfold afterBurst
  split
  · rw [failSession_stepsLeft]
    omega
  split
  · have hburst : stepsLeft { storeByte s.burstIdx r.data s with burstIdx := s.burstIdx + 1 } =
        shapeLength s.shape - (s.burstIdx + 1) + 1 + callerStepsLeft c s :=
      stepsLeft_session (s := { storeByte s.burstIdx r.data s with burstIdx := s.burstIdx + 1 }) hs
    omega
  · have := respond_storeByte_stepsLeft c s.burstIdx r.data s
    omega

/-! ### One step -/

/-- The block takes a step, and less is left. -/
def Advances (s : State) : Prop := ∃ t, step s = .next t ∧ stepsLeft t < stepsLeft s

/-- An action advances if, with its return, what follows does; the ports are no part of the bound. -/
theorem advances_of_action {event : Reply → Event} {goOn : Reply → State → State} (hinv : State.Inv s)
    (hr : s.replies ≠ []) (hstep : step s = awaitReply event goOn s)
    (hgo : ∀ r u, u.seq = s.seq → State.Inv u → stepsLeft (goOn r u) < stepsLeft u) : Advances s := by
  obtain ⟨r, rest, hcons⟩ := List.exists_cons_of_ne_nil hr
  exact ⟨_, step_action hstep hcons, hgo r (withEvent (event r) rest s) rfl hinv⟩

theorem session_advances_of_action {event : Reply → Event} {goOn : Reply → State → State}
    (hs : s.seq = .session c p) (hinv : State.Inv s) (hr : s.replies ≠ []) (hstep : step s = awaitReply event goOn s)
    (hgo : ∀ r u, u.seq = .session c p → sessionPosInv p u →
      stepsLeft (goOn r u) < sessionStepsLeft p u + callerStepsLeft c u) : Advances s :=
  advances_of_action hinv hr hstep fun r u hu hi => by
    obtain ⟨-, -, hpos⟩ := hi.at_session (hu.trans hs)
    rw [stepsLeft_session (hu.trans hs)]
    exact hgo r u (hu.trans hs) hpos

theorem session_advances (hs : s.seq = .session c p) (hinv : State.Inv s) (hr : s.replies ≠ []) : Advances s := by
  cases p with
  | leadIdle =>
    exact session_advances_of_action hs hinv hr (step_leadIdle hs) fun r u _ _ =>
      sessionGoOn_stepsLeft r (by simp only [sessionStepsLeft]; omega)
  | select =>
    exact session_advances_of_action hs hinv hr (step_select hs) fun _ u _ _ =>
      (goto_session_stepsLeft c .settleIdle (setCs .selected u)).trans_lt
        (Nat.add_lt_add_right (Nat.add_lt_add_right (by decide) _) _)
  | settleIdle =>
    exact session_advances_of_action hs hinv hr (step_settleIdle hs) fun r u _ _ =>
      sessionGoOn_stepsLeft r (by simp only [sessionStepsLeft]; omega)
  | sendFrame =>
    exact session_advances_of_action hs hinv hr (step_sendFrame hs) fun r u _ _ =>
      sessionGoOn_stepsLeft r (by simp only [sessionStepsLeft]; omega)
  | tailIdle =>
    exact session_advances_of_action hs hinv hr (step_tailIdle hs) fun r u _ _ =>
      sessionGoOn_stepsLeft r (by simp only [sessionStepsLeft]; omega)
  | deselect =>
    exact session_advances_of_action hs hinv hr (step_deselect hs) fun _ u _ _ =>
      (goto_session_stepsLeft c .dispatch (fillRsp (setCs .deselected u))).trans_lt
        (Nat.add_lt_add_right (Nat.lt_add_of_pos_left Nat.one_pos) _)
  | dispatch =>
    refine ⟨_, step_dispatch hs, ?_⟩
    rw [stepsLeft_session hs]
    exact enterPoll_stepsLeft c { s with pollCnt := 0 }
  | poll => exact session_advances_of_action hs hinv hr (step_poll hs) fun r u _ _ => afterPoll_stepsLeft r u
  | burst =>
    refine session_advances_of_action hs hinv hr (step_burst hs) fun r u hu hpos => ?_
    obtain ⟨-, -, -, -, hidx, -⟩ := hpos
    exact afterBurst_stepsLeft r hu hidx
  | failDeselect =>
    exact session_advances_of_action hs hinv hr (step_failDeselect hs) fun _ u _ _ =>
      (endSession_stepsLeft c .transportFailure (setCs .deselected u)).trans_lt (Nat.lt_add_of_pos_left Nat.one_pos)

/-- The trailing idle byte leads to what comes after the epilogue, or to `DONE` (R156). -/
theorem afterEpilogue_stepsLeft (st : BringupStep) (r : Reply) (s : State) :
    stepsLeft (afterEpilogue st r s) ≤ stepsAfterEpilogue s.params st := by
  have hdone : ∀ code, stepsLeft (finishBringup code s) ≤ stepsAfterEpilogue s.params st := fun code => by
    change 1 ≤ _
    cases st <;> simp only [stepsAfterEpilogue, ifcheckSteps, handshakeSteps] <;> omega
  obtain ⟨code, -, heq⟩ | ⟨-, -, heq⟩ | ⟨-, -, heq⟩ := afterEpilogue_cases st r s <;> rw [heq]
  · exact hdone code
  · exact hdone .errSendFailed
  · cases st with
    | reset => exact Nat.le_refl _
    | ifcheck => exact nextRound_stepsLeft { s with round := 0 }
    | handshake => exact Nat.le_refl _

/-- A command of `BRINGUP` begins a session with the whole bound of its shape. -/
theorem startSession_framerBuild_stepsLeft (c : SessionCaller) (sh : Shape) (index : BitVec 8) (arg : Arg32)
    (s : State) :
    stepsLeft (startSession c sh (framerBuild index arg s)) =
      6 + (pollBound s.params sh + (shapeLength sh - 1) + 2) + callerStepsLeft c s :=
  goto_session_stepsLeft c .leadIdle (startSession c sh (framerBuild index arg s))

theorem busy_advances (hbusy : s.seq ≠ .idle) (hinv : State.Inv s) (hr : s.replies ≠ []) : Advances s := by
  obtain ⟨-, hseq⟩ := inv_iff.mp hinv
  cases hs : s.seq with
  | idle => exact absurd hs hbusy
  | session c p => exact session_advances hs hinv hr
  | done =>
    refine ⟨_, step_done hs, ?_⟩
    simp [stepsLeft, hs]
  | preDeselect =>
    refine advances_of_action hinv hr (step_preDeselect hs) fun _ u hu _ => ?_
    have hnext := preIdleNext_stepsLeft 0 (setCs .deselected u)
    have hleft : stepsLeft u =
        1 + u.params.preResetIdleBytes + 1 + resetSteps u.params u.params.resetRetryMax := by
      simp only [stepsLeft, hu.trans hs]
    rw [setCs_params] at hnext
    omega
  | preIdle sent =>
    refine advances_of_action hinv hr (step_preIdle hs) fun r u hu hi => ?_
    obtain ⟨-, hseq⟩ := inv_iff.mp hi
    simp only [seqInv, hu, hs] at hseq
    obtain ⟨-, -, hsent⟩ := hseq
    have hleft : stepsLeft u =
        u.params.preResetIdleBytes - sent + 1 + resetSteps u.params u.params.resetRetryMax := by
      simp only [stepsLeft, hu.trans hs]
    split
    · have hdone : stepsLeft (finishBringup .errSendFailed u) = 1 := rfl
      omega
    · have hnext := preIdleNext_stepsLeft (sent + 1) u
      omega
  | resetSelect =>
    refine advances_of_action hinv hr (step_resetSelect hs) fun _ u hu _ => ?_
    have hleft : stepsLeft u = 1 + resetSteps u.params u.params.resetRetryMax := by
      simp only [stepsLeft, hu.trans hs]
    rw [hleft]
    exact Nat.lt_one_add_iff.mpr (nextAttempt_stepsLeft { setCs .selected u with resetTry := 0 })
  | resetAttempt =>
    simp only [seqInv, hs] at hseq
    obtain ⟨-, hlt⟩ := hseq
    refine ⟨_, step_resetAttempt hs, ?_⟩
    rw [startSession_framerBuild_stepsLeft]
    simp only [stepsLeft, hs, callerStepsLeft, pollBound, shapeLength, resetSteps_pred s.params hlt, statusCommandSteps]
    omega
  | ifcheckCommand =>
    refine ⟨_, step_ifcheckCommand hs, ?_⟩
    rw [startSession_framerBuild_stepsLeft]
    simp only [stepsLeft, hs, callerStepsLeft, pollBound, shapeLength, ifcheckSteps]
    omega
  | roundPrefix =>
    simp only [seqInv, hs] at hseq
    obtain ⟨-, -, hlt⟩ := hseq
    refine ⟨_, step_roundPrefix hs, ?_⟩
    rw [startSession_framerBuild_stepsLeft]
    simp only [stepsLeft, hs, callerStepsLeft, pollBound, shapeLength, handshakeSteps_pred s.params hlt,
      statusCommandSteps]
    omega
  | roundInit =>
    refine ⟨_, step_roundInit hs, ?_⟩
    rw [startSession_framerBuild_stepsLeft]
    simp only [stepsLeft, hs, callerStepsLeft, pollBound, shapeLength, statusCommandSteps]
    omega
  | epilogueDeselect st =>
    refine advances_of_action hinv hr (step_epilogueDeselect hs) fun _ u hu _ => ?_
    have hnext := stepsLeft_epilogueIdle (s := goto (.epilogueIdle st) (setCs .deselected u)) rfl
    rw [stepsLeft_epilogueDeselect (hu.trans hs), hnext]
    exact Nat.add_lt_add_right (by decide) _
  | epilogueIdle st =>
    refine advances_of_action hinv hr (step_epilogueIdle hs) fun r u hu _ => ?_
    rw [stepsLeft_epilogueIdle (hu.trans hs)]
    exact Nat.lt_one_add_iff.mpr (afterEpilogue_stepsLeft st r u)

/-! ### To the end -/

/-- The bound of a block at work is not used up: with a return to come it would still decrease. -/
theorem stepsLeft_pos (hbusy : s.seq ≠ .idle) (hinv : State.Inv s) : 0 < stepsLeft s := by
  obtain ⟨t, -, hlt⟩ := busy_advances (s := { s with replies := [okReply 0#8] }) hbusy hinv nofun
  exact Nat.zero_lt_of_lt hlt

/-- A step takes at most one of the returns to come. -/
theorem step_replies_length (h : step s = .next t) : s.replies.length ≤ t.replies.length + 1 := by
  obtain ⟨_, hkept | ⟨e, r, rest, hr, hkept⟩⟩ := step_atMostOneEvent h
  · rw [hkept.replies]
    exact Nat.le_succ _
  · rw [hkept.replies, show s.replies = r :: rest from hr]
    exact Nat.le_refl _

/-- A step that brings a block at work to rest returns a result (R197). -/
theorem result_of_busy_step (hbusy : s.seq ≠ .idle) (hinv : State.Inv s) (h : step s = .next t)
    (ht : t.seq = .idle) : t.result ≠ none := by
  obtain hon | ⟨code, r, rest, rfl, -⟩ := busy_step_cases hbusy hinv h
  · exact hon.result ht
  · exact nomatch ht

/-! ### The obligations -/

/-- Settles O56: position by position, what a step leads to has less left. -/
theorem busyStepComesCloserToTheEnd : Obligations.BusyStepComesCloserToTheEnd :=
  fun _ hinv hbusy hr => busy_advances hbusy hinv hr

/-- Settles O57: by induction on the steps left, of which each takes at most one return. -/
theorem everyOperationEndsIfActionsReturn : Obligations.EveryOperationEndsIfActionsReturn := by
  intro s hinv hbusy hlen
  generalize hn : stepsLeft s = n
  induction n using Nat.strong_induction_on generalizing s with
  | h n ih =>
    have hpos := stepsLeft_pos hbusy hinv
    obtain ⟨t, hstep, hlt⟩ := busy_advances hbusy hinv (List.ne_nil_of_length_pos (hpos.trans_le hlen))
    by_cases ht : t.seq = .idle
    · exact ⟨1, t, hn ▸ hpos, runSteps_succ hstep, ht, result_of_busy_step hbusy hinv hstep ht⟩
    · have hreplies := step_replies_length hstep
      obtain ⟨m, v, hm, hrun, hv⟩ := ih (stepsLeft t) (hn ▸ hlt) t (step_inv hinv hstep) ht (by omega) rfl
      exact ⟨m + 1, v, by omega, (runSteps_succ hstep).trans hrun, hv⟩

end Sys2Proof.Machine

/-! Scope: the machine's `BRINGUP` is the pseudocode's (R150): where the pseudocode returns, the machine comes to rest
with the same code and the same state, and where it waits, so does the machine. -/

namespace Sys2Proof.Machine

variable {s t u v w : State} {c : SessionCaller} {run : Option (StatusCode × State)}

/-! ### What a session of the pseudocode keeps -/

/-- What the loops of `BRINGUP` read, and the requests still to come. -/
def loopFields (s : State) : Params × List HostRequest × Nat × Nat := (s.params, s.requests, s.resetTry, s.round)

theorem callXchg_kept {inp : Option Byte} (h : callXchg w = some (inp, v)) : loopFields v = loopFields w := by
  unfold callXchg at h
  split at h <;> cases h
  rfl

theorem callXmit_kept {ok : Bool} (h : callXmit w = some (ok, v)) : loopFields v = loopFields w := by
  unfold callXmit at h
  split at h <;> cases h
  rfl

theorem callSel_kept (h : callSel w = some v) : loopFields v = loopFields w := by
  unfold callSel at h
  split at h <;> cases h
  rfl

theorem callDesel_kept (h : callDesel w = some v) : loopFields v = loopFields w := by
  unfold callDesel at h
  split at h <;> cases h
  rfl

/-- The part of a session that runs from `w`, if it returns, keeps what the loops of `BRINGUP` read. -/
def KeepsLoops (w : State) (run : Option (SessionOutcome × State)) : Prop :=
  ∀ o v, run = some (o, v) → loopFields v = loopFields w

theorem keepsLoops_none (w : State) : KeepsLoops w none := fun _ _ h => nomatch h

theorem keepsLoops_some (o : SessionOutcome) (h : loopFields v = loopFields w) : KeepsLoops w (some (o, v)) := by
  rintro _ _ ⟨⟩
  exact h

theorem KeepsLoops.after {run : Option (SessionOutcome × State)} (hrun : KeepsLoops u run)
    (h : loopFields u = loopFields w) : KeepsLoops w run :=
  fun o v hv => (hrun o v hv).trans h

theorem sessionFailed_keepsLoops (w : State) : KeepsLoops w (sessionFailed w) := by
  unfold sessionFailed
  split
  · exact keepsLoops_none w
  · next h => exact keepsLoops_some _ (callDesel_kept h)

theorem burstLoop_keepsLoops (sh : Shape) (left i : Nat) (w : State) : KeepsLoops w (burstLoop sh left i w) := by
  induction left generalizing i w with
  | zero => exact keepsLoops_some _ rfl
  | succ left ih =>
    unfold burstLoop
    split
    · exact keepsLoops_none w
    · next v h => exact (sessionFailed_keepsLoops v).after (callXchg_kept h :)
    · next b v h => exact (ih (i + 1) { v with rsp := rspWrite v.rsp sh i b }).after (callXchg_kept h :)

theorem pollLoop_keepsLoops (sh : Shape) (left : Nat) (w : State) : KeepsLoops w (pollLoop sh left w) := by
  induction left generalizing w with
  | zero => exact keepsLoops_some _ rfl
  | succ left ih =>
    unfold pollLoop
    split
    · exact keepsLoops_none w
    · next v h => exact (sessionFailed_keepsLoops v).after (callXchg_kept h :)
    · next b v h =>
      split
      · exact (ih v).after (callXchg_kept h :)
      · exact (burstLoop_keepsLoops sh _ 1 { v with rsp := rspWrite v.rsp sh 0 b }).after (callXchg_kept h :)

theorem sessionTail_keepsLoops (sh : Shape) (w : State) : KeepsLoops w (sessionTail sh w) := by
  unfold sessionTail
  split
  · exact keepsLoops_none w
  · next v h => exact (sessionFailed_keepsLoops v).after (callXchg_kept h :)
  · next h =>
    split
    · exact keepsLoops_none w
    · next v hd =>
      exact (pollLoop_keepsLoops sh _ { v with rsp := Rsp.filled, pollCnt := 0 }).after
        ((callDesel_kept hd).trans (callXchg_kept h) :)

theorem sessionFrame_keepsLoops (sh : Shape) (w : State) : KeepsLoops w (sessionFrame sh w) := by
  unfold sessionFrame
  split
  · exact keepsLoops_none w
  · next v h => exact (sessionFailed_keepsLoops v).after (callXmit_kept h)
  · next v h => exact (sessionTail_keepsLoops sh v).after (callXmit_kept h)

theorem sessionSettle_keepsLoops (sh : Shape) (w : State) : KeepsLoops w (sessionSettle sh w) := by
  unfold sessionSettle
  split
  · exact keepsLoops_none w
  · next v h => exact (sessionFailed_keepsLoops v).after (callXchg_kept h :)
  · next v h => exact (sessionFrame_keepsLoops sh v).after (callXchg_kept h :)

theorem sessionRun_keepsLoops (sh : Shape) (w : State) : KeepsLoops w (sessionRun sh w) := by
  unfold sessionRun
  split
  · exact keepsLoops_none w
  · next v h => exact (sessionFailed_keepsLoops v).after (callXchg_kept h :)
  · next h =>
    split
    · exact keepsLoops_none w
    · next v hsel => exact (sessionSettle_keepsLoops sh v).after ((callSel_kept hsel).trans (callXchg_kept h))

/-! ### Runs that take no request

The idle block leaves its position only by taking a request, so a run that ends at work with all the requests still to
come was at work all along. -/

theorem step_of_runSteps_succ {n : Nat} (h : runSteps (n + 1) s = .next t) :
    ∃ u, step s = .next u ∧ runSteps n u = .next t := by
  cases hs : step s with
  | next u => exact ⟨u, rfl, (runSteps_succ hs).symm.trans h⟩
  | fault r => exact nomatch r
  | refused r =>
    have hcore : (Sys2Proof.core).step s = .refused r := hs
    simp [runSteps, Host.Core.run, hcore] at h

theorem runSteps_split {m k : Nat} (h : runSteps (m + k) s = .next t) :
    ∃ u, runSteps m s = .next u ∧ runSteps k u = .next t := by
  induction m generalizing s with
  | zero => exact ⟨s, rfl, Nat.zero_add k ▸ h⟩
  | succ m ih =>
    rw [Nat.succ_add] at h
    obtain ⟨u, hstep, hrest⟩ := step_of_runSteps_succ h
    obtain ⟨v, hv, hk⟩ := ih hrest
    exact ⟨v, (runSteps_succ hstep).trans hv, hk⟩

theorem step_requests_length (h : step s = .next t) : t.requests.length ≤ s.requests.length := by
  obtain ⟨-, rfl⟩ | ⟨-, -, rfl⟩ | ⟨q, rest, i, -, hq, -, hi⟩ | ⟨i, -, hi⟩ := step_cases h
  · exact Nat.le_refl _
  · exact Nat.le_refl _
  · rw [(exec_atMostOneEvent hi).requests, hq]
    exact Nat.le_succ _
  · exact (congrArg List.length (exec_atMostOneEvent hi).requests).le

theorem runSteps_requests_length {n : Nat} (h : runSteps n s = .next t) : t.requests.length ≤ s.requests.length :=
  runSteps_invariant (P := fun u => u.requests.length ≤ s.requests.length)
    (fun _ _ hu hstep => (step_requests_length hstep).trans hu) (Nat.le_refl _) h

theorem idle_step_of_requests (hs : s.seq = .idle) (h : step s = .next t)
    (hq : s.requests.length ≤ t.requests.length) : t = s := by
  obtain ⟨hdone, -⟩ | ⟨-, -, rfl⟩ | ⟨q, rest, i, -, hcons, -, hi⟩ | ⟨i, hi, -⟩ := step_cases h
  · exact nomatch hs.symm.trans hdone
  · rfl
  · rw [(exec_atMostOneEvent hi).requests, hcons] at hq
    exact absurd hq (Nat.not_succ_le_self _)
  · simp [issuedInstr, hs] at hi

theorem idle_runSteps_of_requests {n : Nat} (hs : s.seq = .idle) (h : runSteps n s = .next t)
    (hq : s.requests.length ≤ t.requests.length) : t = s := by
  induction n with
  | zero => exact (Host.Outcome.next.inj h).symm
  | succ n ih =>
    obtain ⟨u, hstep, hrest⟩ := step_of_runSteps_succ h
    obtain rfl := idle_step_of_requests hs hstep (hq.trans (runSteps_requests_length hrest))
    exact ih hrest

theorem runSteps_busy_before {m k : Nat} (h : runSteps (m + k) s = .next t) (hq : t.requests = s.requests)
    (ht : t.seq ≠ .idle) : ∃ u, runSteps m s = .next u ∧ u.seq ≠ .idle := by
  obtain ⟨u, hu, hrest⟩ := runSteps_split h
  refine ⟨u, hu, fun hidle => ht ?_⟩
  have hlen := runSteps_requests_length hu
  rw [← hq] at hlen
  rw [idle_runSteps_of_requests hidle hrest hlen, hidle]

/-! ### Meeting the pseudocode of `BRINGUP` -/

/-- From `u` the machine does what the pseudocode did: it comes to rest with the same code in the same state, or never
gets idle where an action never returns (R124, R219). -/
structure MeetsBringup (u : State) (run : Option (StatusCode × State)) : Prop where
  returns : ∀ code v, run = some (code, v) →
    ∃ n, runSteps n u = .next { v with seq := .idle, result := some (.status code) }
  waits : run = none → ∀ n, ∃ t, runSteps n u = .next t ∧ t.seq ≠ .idle

/-- At `DONE` the code is returned, wherever the pseudocode stands (R167). -/
theorem finishBringup_meets (code : StatusCode) (q : SeqPos) (v : State) :
    MeetsBringup (finishBringup code (goto q v)) (bringupReturn code v) := by
  refine ⟨fun code' v' h => ?_, nofun⟩
  cases h
  exact ⟨1, runSteps_succ (step_done rfl)⟩

theorem MeetsBringup.of_step (hbusy : u.seq ≠ .idle) (hstep : step u = .next v) (h : MeetsBringup v run) :
    MeetsBringup u run := by
  refine ⟨fun code v' hrun => ?_, fun hrun n => ?_⟩
  · obtain ⟨n, hn⟩ := h.returns code v' hrun
    exact ⟨n + 1, (runSteps_succ hstep).trans hn⟩
  · cases n with
    | zero => exact ⟨u, rfl, hbusy⟩
    | succ n =>
      rw [runSteps_succ hstep]
      exact h.waits hrun n

/-- A run that takes no request and ends at work can be put before. -/
theorem MeetsBringup.of_run {k : Nat} (hk : runSteps k u = .next v) (hq : v.requests = u.requests)
    (hbusy : v.seq ≠ .idle) (h : MeetsBringup v run) : MeetsBringup u run := by
  refine ⟨fun code v' hrun => ?_, fun hrun n => ?_⟩
  · obtain ⟨n, hn⟩ := h.returns code v' hrun
    exact ⟨k + n, (runSteps_add hk).trans hn⟩
  · obtain ⟨j, rfl⟩ | ⟨j, rfl⟩ : (∃ j, k = n + j) ∨ ∃ j, n = k + j :=
      (Nat.le_total n k).imp Nat.exists_eq_add_of_le Nat.exists_eq_add_of_le
    · exact runSteps_busy_before hk hq hbusy
    · rw [runSteps_add hk]
      exact h.waits hrun j

/-- An action waits where the call does, and goes on with its return where the call does. -/
theorem meetsBringup_action {event : Reply → Event} {goOn : Reply → State → State} (hbusy : u.seq ≠ .idle)
    (hstep : step u = awaitReply event goOn u) (hnil : u.replies = [] → run = none)
    (hcons : ∀ r rest, u.replies = r :: rest → MeetsBringup (goOn r (withEvent (event r) rest u)) run) :
    MeetsBringup u run := by
  cases hr : u.replies with
  | nil =>
    rw [awaitReply_nil hr] at hstep
    rw [hnil hr]
    exact ⟨fun _ _ h => (nomatch h), fun _ n => ⟨u, runSteps_of_fixed hstep n, hbusy⟩⟩
  | cons r rest => exact (hcons r rest hr).of_step hbusy (step_action hstep hr)

/-! ### A command of `BRINGUP` -/

theorem endSession_busy (hc : c ≠ .host) (o : SessionOutcome) (s : State) : (endSession c o s).seq ≠ .idle := by
  intro hidle
  have hphase := (endSession_movesOn c o s).phase
  rw [hidle] at hphase
  revert hphase
  cases c with
  | host => exact absurd rfl hc
  | reset | ifcheck | roundPrefix | roundInit => decide

theorem endSession_setOutcome (c : SessionCaller) (o : SessionOutcome) (s : State) :
    endSession c o { s with outcome := some o } = endSession c o s := by
  cases c <;> rfl

theorem setOutcome_self {o : SessionOutcome} (h : u.outcome = some o) : { u with outcome := some o } = u := by
  rw [← h]

/-- The session of a command is `SEND_COMMAND`; whoever called it goes on with its outcome (R150). -/
theorem startSession_meets {sh : Shape} (hc : c ≠ .host) (hnone : sendCommandRun sh w = none → run = none)
    (hsome : ∀ o u, loopFields u = loopFields w → u.outcome = some o → sendCommandRun sh w = some (o, u) →
      MeetsBringup (endSession c o u) run) : MeetsBringup (startSession c sh w) run := by
  have hsession : Meets c (startSession c sh w) (sessionRun sh { w with shape := sh, outcome := none }) :=
    sessionRun_meets c { w with shape := sh, outcome := none }
  cases hrun : sessionRun sh { w with shape := sh, outcome := none } with
  | none =>
    rw [hnone (by simp only [sendCommandRun, hrun])]
    exact ⟨fun _ _ h => (nomatch h), fun _ => hsession.waits hrun⟩
  | some result =>
    obtain ⟨o, v⟩ := result
    have hkept : loopFields v = loopFields w := (sessionRun_keepsLoops sh _ o v hrun :)
    obtain ⟨k, hk⟩ := hsession.returns o v hrun
    have hrequests : (endSession c o v).requests = w.requests :=
      (endSession_kept c o v).ports.requests.trans (congrArg (·.2.1) hkept)
    have hgo := hsome o { v with outcome := some o } hkept rfl (by simp only [sendCommandRun, hrun])
    rw [endSession_setOutcome] at hgo
    exact hgo.of_run hk hrequests (endSession_busy hc o v)

/-! ### Leaving a step -/

/-- An epilogue is the two calls; then the verdict, a failed byte or the next step (R156, R165). -/
theorem enterEpilogue_meets {st : BringupStep} {next : State → Option (StatusCode × State)}
    (hnext : ∀ q v, MeetsBringup (nextStep st (goto q v)) (next v)) (verdict : Option StatusCode) (w : State) :
    MeetsBringup (enterEpilogue st verdict w) (leaveStep verdict next w) := by
  refine meetsBringup_action nofun (step_epilogueDeselect rfl) (fun hr => ?_) fun r rest hr => ?_
  · have hdesel : callDesel { w with statusCode := verdict } = none := callDesel_nil hr
    simp only [leaveStep, hdesel]
  let y : State := setCs .deselected (withEvent .desel rest { w with statusCode := verdict })
  have hdesel : callDesel { w with statusCode := verdict } = some y := callDesel_cons hr
  refine meetsBringup_action nofun (step_epilogueIdle (st := st) rfl) (fun hr' => ?_) fun r' rest' hr' => ?_
  · simp only [leaveStep, hdesel, callXchg_nil (w := y) hr']
  let z : State := withEvent (xchgEvent Config.idleByte r') rest' y
  have hxchg : callXchg y = some (if r'.fail then none else some r'.data, z) := callXchg_cons hr'
  obtain ⟨code, hcode, heq⟩ | ⟨hcode, hf, heq⟩ | ⟨hcode, hf, heq⟩ :=
    afterEpilogue_cases st r' (goto (.epilogueIdle st) z)
  · obtain rfl : verdict = some code := hcode
    simp only [leaveStep, hdesel, hxchg]
    exact heq ▸ finishBringup_meets code _ z
  · obtain rfl : verdict = none := hcode
    simp only [leaveStep, hdesel, hxchg, hf]
    exact heq ▸ finishBringup_meets .errSendFailed _ z
  · obtain rfl : verdict = none := hcode
    simp only [leaveStep, hdesel, hxchg, hf]
    exact heq ▸ hnext _ z

/-! ### Step 4 -/

/-- `CMD55`, the first command of a round (R159, R160). -/
def prefixRun (w : State) : Option (SessionOutcome × State) :=
  sendCommandRun .status (framerBuild 55#8 Config.cmd55Arg { w with round := w.round + 1 })

/-- `ACMD41`, the second command of a round (R161). -/
def initRun (w : State) : Option (SessionOutcome × State) :=
  sendCommandRun .status (framerBuild 41#8 Config.acmd41Arg w)

section RoundLoop

variable {left : Nat} {o : SessionOutcome}

theorem roundLoop_prefix_none (h : prefixRun w = none) : roundLoop (left + 1) w = none := by
  unfold prefixRun at h
  simp only [roundLoop, h]

theorem roundLoop_prefix_failed (h : prefixRun w = some (.transportFailure, u)) :
    roundLoop (left + 1) w = some (some .errSendFailed, u) := by
  unfold prefixRun at h
  simp only [roundLoop, h]

theorem roundLoop_prefix_unaccepted (h : prefixRun w = some (o, u)) (hrej : unaccepted prefixAccepted o) :
    roundLoop (left + 1) w = roundLoop left u := by
  unfold prefixRun at h
  obtain rfl | ⟨bytes, rfl, hacc⟩ := hrej
  · simp only [roundLoop, h]
  · have hne : bytes ≠ [Config.idleStatus] := by simpa [prefixAccepted] using hacc
    simp only [roundLoop, h, hne, if_false]

variable {bytes : List Byte} (hprefix : prefixRun w = some (.response bytes, u)) (hacc : prefixAccepted bytes = true)
include hprefix hacc

theorem roundLoop_init_none (h : initRun u = none) : roundLoop (left + 1) w = none := by
  obtain rfl : bytes = [Config.idleStatus] := by simpa [prefixAccepted] using hacc
  unfold prefixRun at hprefix
  unfold initRun at h
  simp only [roundLoop, hprefix, h, if_true]

theorem roundLoop_init_failed (h : initRun u = some (.transportFailure, v)) :
    roundLoop (left + 1) w = some (some .errSendFailed, v) := by
  obtain rfl : bytes = [Config.idleStatus] := by simpa [prefixAccepted] using hacc
  unfold prefixRun at hprefix
  unfold initRun at h
  simp only [roundLoop, hprefix, h, if_true]

theorem roundLoop_init_ready (h : initRun u = some (.response [Config.readyStatus], v)) :
    roundLoop (left + 1) w = some (none, v) := by
  obtain rfl : bytes = [Config.idleStatus] := by simpa [prefixAccepted] using hacc
  unfold prefixRun at hprefix
  unfold initRun at h
  simp only [roundLoop, hprefix, h, if_true]

theorem roundLoop_init_unaccepted (h : initRun u = some (o, v)) (hrej : unaccepted initReady o) :
    roundLoop (left + 1) w = roundLoop left v := by
  obtain rfl : bytes = [Config.idleStatus] := by simpa [prefixAccepted] using hacc
  unfold prefixRun at hprefix
  unfold initRun at h
  obtain rfl | ⟨bytes, rfl, hne⟩ := hrej
  · simp only [roundLoop, hprefix, h, if_true]
  · have hne : bytes ≠ [Config.readyStatus] := by simpa [initReady] using hne
    simp only [roundLoop, hprefix, h, if_true, hne, if_false]

end RoundLoop

/-- With `left` rounds to go, the rounds are the loop, which leaves the step with its verdict (R159 to R162). -/
theorem nextRound_meets {left : Nat} (hcount : w.round + left = w.params.handshakeRoundsMax)
    (hnone : roundLoop left w = none → run = none)
    (hleave : ∀ verdict v, roundLoop left w = some (verdict, v) →
      MeetsBringup (enterEpilogue .handshake verdict v) run) : MeetsBringup (nextRound w) run := by
  induction left generalizing w with
  | zero =>
    rw [nextRound_of_ge hcount.ge]
    exact hleave _ w rfl
  | succ left ih =>
    have hagain : ∀ u, loopFields u = loopFields { w with round := w.round + 1 } →
        roundLoop (left + 1) w = roundLoop left u → MeetsBringup (nextRound u) run := fun u hkept hloop => by
      have hparams : u.params = w.params := congrArg (·.1) hkept
      have hround : u.round = w.round + 1 := congrArg (·.2.2.2) hkept
      exact ih (by rw [hparams, hround]; omega) (hloop ▸ hnone) (hloop ▸ hleave)
    rw [nextRound_of_lt (by omega)]
    refine .of_step nofun (step_roundPrefix rfl) ?_
    refine startSession_meets (w := framerBuild 55#8 Config.cmd55Arg { w with round := w.round + 1 }) nofun
      (fun h => hnone (roundLoop_prefix_none h)) fun o u hkept ho hprefix => ?_
    rw [endSession, setOutcome_self ho]
    obtain ⟨rfl, heq⟩ | ⟨bytes, rfl, hacc, heq⟩ | ⟨hrej, heq⟩ := afterPrefix_cases o u <;> rw [heq]
    · exact hleave _ u (roundLoop_prefix_failed hprefix)
    · refine .of_step nofun (step_roundInit rfl) ?_
      refine startSession_meets (w := framerBuild 41#8 Config.acmd41Arg u) nofun
        (fun h => hnone (roundLoop_init_none hprefix hacc h)) fun o v hkept' ho hinit => ?_
      rw [endSession, setOutcome_self ho]
      obtain ⟨rfl, heq⟩ | ⟨rfl, heq⟩ | ⟨hrej, heq⟩ := afterInit_cases o v <;> rw [heq]
      · exact hleave _ v (roundLoop_init_failed hprefix hacc hinit)
      · exact hleave _ v (roundLoop_init_ready hprefix hacc hinit)
      · exact hagain v (hkept'.trans hkept) (roundLoop_init_unaccepted hprefix hacc hinit hrej)
    · exact hagain u hkept (roundLoop_prefix_unaccepted hprefix hrej)

/-- Step 4 and the `OK` after it (R159, R163). -/
theorem enterHandshake_meets (q : SeqPos) (w : State) :
    MeetsBringup (enterHandshake (goto q w)) (handshakeRun w) := by
  refine nextRound_meets (w := { w with round := 0 }) (left := w.params.handshakeRoundsMax) (Nat.zero_add _)
    (fun h => by simp only [handshakeRun, h]) fun verdict v h => ?_
  have hrun : handshakeRun w = leaveStep verdict (bringupReturn .ok) v := by simp only [handshakeRun, h]
  rw [hrun]
  exact enterEpilogue_meets (st := .handshake) (fun q v => finishBringup_meets .ok q v) verdict v

/-! ### Step 3 -/

theorem ifcheckRun_eq {o : SessionOutcome}
    (h : sendCommandRun .ifcond (framerBuild 8#8 Config.cmd8Arg w) = some (o, u)) :
    ifcheckRun w = leaveStep (ifcheckVerdict o) handshakeRun u := by
  cases o with
  | transportFailure | timeout => simp only [ifcheckRun, h, ifcheckVerdict]
  | response bytes =>
    simp only [ifcheckRun, h, ifcheckVerdict, ifcondValid, Bool.and_eq_true, beq_iff_eq, and_assoc]
    split <;> rfl

theorem ifcheckCommand_meets (w : State) : MeetsBringup (goto .ifcheckCommand w) (ifcheckRun w) := by
  refine .of_step nofun (step_ifcheckCommand rfl) ?_
  refine startSession_meets (w := framerBuild 8#8 Config.cmd8Arg w) nofun (fun h => by simp only [ifcheckRun, h])
    fun o u _ ho h => ?_
  rw [endSession, setOutcome_self ho, ifcheckRun_eq h]
  exact enterEpilogue_meets (st := .ifcheck) enterHandshake_meets _ _

/-! ### Step 2 -/

/-- The reset command of an attempt (R153). -/
def attemptRun (w : State) : Option (SessionOutcome × State) :=
  sendCommandRun .status (framerBuild 0#8 Config.cmd0Arg { w with resetTry := w.resetTry + 1 })

section ResetLoop

variable {left : Nat} {o : SessionOutcome}

theorem resetLoop_none (h : attemptRun w = none) : resetLoop (left + 1) w = none := by
  unfold attemptRun at h
  simp only [resetLoop, h]

theorem resetLoop_failed (h : attemptRun w = some (.transportFailure, u)) :
    resetLoop (left + 1) w = some (some .errSendFailed, u) := by
  unfold attemptRun at h
  simp only [resetLoop, h]

theorem resetLoop_accepted {bytes : List Byte} (h : attemptRun w = some (.response bytes, u))
    (hacc : resetAccepted u.params bytes = true) : resetLoop (left + 1) w = some (none, u) := by
  unfold attemptRun at h
  simp only [resetLoop, h, hacc, if_true]

theorem resetLoop_unaccepted (h : attemptRun w = some (o, u)) (hrej : unaccepted (resetAccepted u.params) o) :
    resetLoop (left + 1) w = resetLoop left u := by
  unfold attemptRun at h
  obtain rfl | ⟨bytes, rfl, hacc⟩ := hrej
  · simp only [resetLoop, h]
  · simp [resetLoop, h, hacc]

end ResetLoop

/-- With `left` attempts to go, the attempts are the loop, which leaves the step with its verdict (R153 to R155). -/
theorem nextAttempt_meets {left : Nat} (hcount : w.resetTry + left = w.params.resetRetryMax)
    (hnone : resetLoop left w = none → run = none)
    (hleave : ∀ verdict v, resetLoop left w = some (verdict, v) →
      MeetsBringup (enterEpilogue .reset verdict v) run) : MeetsBringup (nextAttempt w) run := by
  induction left generalizing w with
  | zero =>
    rw [nextAttempt_of_ge hcount.ge]
    exact hleave _ w rfl
  | succ left ih =>
    rw [nextAttempt_of_lt (by omega)]
    refine .of_step nofun (step_resetAttempt rfl) ?_
    refine startSession_meets (w := framerBuild 0#8 Config.cmd0Arg { w with resetTry := w.resetTry + 1 }) nofun
      (fun h => hnone (resetLoop_none h)) fun o u hkept ho h => ?_
    rw [endSession, setOutcome_self ho]
    obtain ⟨rfl, heq⟩ | ⟨bytes, rfl, hacc, heq⟩ | ⟨hrej, heq⟩ := afterReset_cases o u <;> rw [heq]
    · exact hleave _ u (resetLoop_failed h)
    · exact hleave _ u (resetLoop_accepted h hacc)
    · have hloop : resetLoop (left + 1) w = resetLoop left u := resetLoop_unaccepted h hrej
      have hparams : u.params = w.params := congrArg (·.1) hkept
      have htry : u.resetTry = w.resetTry + 1 := congrArg (·.2.2.1) hkept
      exact ih (by rw [hparams, htry]; omega) (hloop ▸ hnone) (hloop ▸ hleave)

theorem resetRun_none (hsel : callSel w = some u)
    (h : resetLoop u.params.resetRetryMax { u with resetTry := 0 } = none) : resetRun w = none := by
  simp only [resetRun, hsel, h]

theorem resetRun_some {verdict : Option StatusCode} (hsel : callSel w = some u)
    (h : resetLoop u.params.resetRetryMax { u with resetTry := 0 } = some (verdict, v)) :
    resetRun w = leaveStep verdict ifcheckRun v := by
  simp only [resetRun, hsel, h]

theorem resetSelect_meets (w : State) : MeetsBringup (goto .resetSelect w) (resetRun w) := by
  refine meetsBringup_action nofun (step_resetSelect rfl) (fun hr => ?_) fun r rest hr => ?_
  · simp only [resetRun, callSel_nil (w := w) hr]
  let u : State := setCs .selected (withEvent .sel rest w)
  have hsel : callSel w = some u := callSel_cons hr
  refine nextAttempt_meets (w := { u with resetTry := 0 }) (Nat.zero_add _) (fun h => resetRun_none (u := u) hsel h)
    fun verdict v h => ?_
  rw [resetRun_some hsel h]
  exact enterEpilogue_meets (st := .reset) (fun _ v => ifcheckCommand_meets v) verdict v

/-! ### Step 1 -/

/-- With `left` idle bytes to go, step 1 is the loop (R151). -/
theorem preIdleNext_meets {left sent : Nat} (hcount : sent + left = w.params.preResetIdleBytes) :
    MeetsBringup (preIdleNext sent w) (preResetLoop left w) := by
  induction left generalizing sent w with
  | zero =>
    rw [preIdleNext_of_ge (sent := sent) hcount.ge]
    exact resetSelect_meets w
  | succ left ih =>
    rw [preIdleNext_of_lt (by omega)]
    refine meetsBringup_action nofun (step_preIdle rfl) (fun hr => ?_) fun r rest hr => ?_
    · simp only [preResetLoop, callXchg_nil (w := w) hr]
    let x : State := withEvent (xchgEvent Config.idleByte r) rest w
    have hxchg : callXchg w = some (if r.fail then none else some r.data, x) := callXchg_cons hr
    cases hf : r.fail with
    | true =>
      simp only [preResetLoop, hxchg, hf, if_true]
      exact finishBringup_meets .errSendFailed _ x
    | false =>
      simp only [preResetLoop, hxchg, hf]
      exact ih (w := x) ((Nat.add_right_comm sent 1 left).trans hcount)

/-! ### The obligation -/

/-- Settles O59: the first `DESEL`, then the steps one after the other, each meeting its part of the pseudocode. -/
theorem bringupMeetsItsPseudocode : Obligations.BringupMeetsItsPseudocode := by
  intro s hs
  have hmeets : MeetsBringup s (bringupRun s) := by
    refine meetsBringup_action (by rw [hs]; exact nofun) (step_preDeselect hs) (fun hr => ?_) fun r rest hr => ?_
    · simp only [bringupRun, callDesel_nil hr]
    · simp only [bringupRun, callDesel_cons hr]
      exact preIdleNext_meets (Nat.zero_add _)
  exact ⟨hmeets.returns, hmeets.waits⟩

end Sys2Proof.Machine

/-! Scope: the power-on state, as the operation "reset" at power-on (R200). -/

namespace Sys2Proof.Machine

/-- Power-on is a fixed point of the operation "reset", so what holds after every reset holds there (R200). -/
theorem blockReset_powerOn : blockReset State.reset.frame State.reset.arg State.reset = State.reset := rfl

/-- Settles O48: the invariant holds after every reset, and power-on is one. -/
theorem resetMeetsTheInvariant : Obligations.ResetMeetsTheInvariant := by
  unfold Obligations.ResetMeetsTheInvariant
  rw [← blockReset_powerOn]
  exact blockReset_inv State.reset.frame State.reset.arg State.reset

end Sys2Proof.Machine
